-- ==== Sys2Proof/Word.lean ====
section
/-! DEFINITION. The two word sizes of SFE: host registers are 32 bits, bus and serial bytes are 8 bits
(00_scope.md R16). -/

namespace Sys2Proof

/-- A byte of the bus port, of the serial stream or of a one-wire frame (R16). -/
abbrev Byte := BitVec 8

/-- A host register, and the value a host access moves (R16, R102). -/
abbrev Word := BitVec 32

end Sys2Proof
end

