-- ==== Sys2Proof/Machine/Arith.lean ====
section
/-! DEFINITION. The integer arithmetic of 00_scope.md R13 and R14: mathematical integers, an explicit wrap at each
stated width, floor right shifts, wrapping left shifts, division truncated toward zero. -/

namespace Sys2Proof.Machine

/-- `wN(x)` of R13: the `y` congruent to `x` modulo 2^N with -2^(N-1) ≤ y < 2^(N-1). -/
def wrap (n : Nat) (x : Int) : Int := Int.bmod x (2 ^ n)

/-- `w16`, `w32`, `w64` of R13. -/
def w16 (x : Int) : Int := wrap 16 x
def w32 (x : Int) : Int := wrap 32 x
def w64 (x : Int) : Int := wrap 64 x

/-- `asr(x, n)` of R14: the floor of x / 2^n (for a positive divisor Lean's `/` on `Int` is the floor). -/
def asr (x : Int) (n : Nat) : Int := x / (2 ^ n : Int)

/-- `shl_32(x, n)` of R14. -/
def shl32 (x : Int) (n : Nat) : Int := w32 (x * (2 ^ n : Int))

/-- `tdiv(a, b)` of R14: the quotient truncated toward zero, wrapped to 32 bits. R14 never evaluates it at b = 0. -/
def tdiv (a b : Int) : Int := w32 (Int.tdiv a b)

/-- `u32(x)` of R13, as the 32-bit register pattern. -/
def u32 (x : Int) : BitVec 32 := BitVec.ofInt 32 x

/-- `zext_N` and `sext_N` of R13: a field read as an unsigned and as a signed number. -/
def zext {n : Nat} (v : BitVec n) : Int := v.toNat
def sext {n : Nat} (v : BitVec n) : Int := v.toInt

end Sys2Proof.Machine
end

