-- ==== Sys2Proof/Syntax.lean ====
section
/-! DEFINITION. The commands of SFE (30_encoding.md R152), one constructor per row of the opcode table, and the
alphabet of events the machine is an interleaving of (00_scope.md R9). -/

namespace Sys2Proof

/-- The four commands a host writes into CMD (R152), in the table's order. -/
inductive Instr where
  /-- `OW.READ` (R230): read one frame from the one-wire sensor. -/
  | owRead
  /-- `FS.READ` (R340): one framed exchange with the serial sensor. -/
  | fsRead
  /-- `CMP.READ` (R280): one compensated forced-mode measurement. -/
  | cmpRead
  /-- `LINE.WAIT level, timeout` (R216): wait for a line level. `level` is the field L (`true` is high) and
  `timeout` the field TIMEOUT, a count of ticks (R151, R156). -/
  | lineWait (level : Bool) (timeout : Nat)
deriving DecidableEq, Repr

/-- The width of a host access. Only `word` is legal (20_memory.md R102); the other two are the narrow accesses of R103. -/
inductive AccessWidth where
  | byte
  | half
  | word
deriving DecidableEq, Repr

/-- The events of 00_scope.md R9: everything that can happen to SFE, one at a time. -/
inductive Event where
  /-- `HostWrite(off, v)`, with the width the host bus used (R103). -/
  | hostWrite (width : AccessWidth) (off : BitVec 12) (v : Word)
  /-- `HostRead(off)`, with the width the host bus used (R103). -/
  | hostRead (width : AccessWidth) (off : BitVec 12)
  /-- `Tick(e)`: one microsecond passes; `e` is the level the line would show if SFE did not drive it. -/
  | tick (e : Bool)
  /-- `BusDone(ok, bytes)`: the bus collaborator answers the outstanding request. R9 lets it carry 0 to 23 bytes. -/
  | busDone (ok : Bool) (bytes : List Byte)
  /-- `SerDone(ok, n)`: the serial collaborator answers an outstanding open or write with a byte count. -/
  | serDone (ok : Bool) (n : Nat)
  /-- `SerRx(b)`: a byte arrives on the serial stream. -/
  | serRx (b : Byte)
  /-- `SerRxErr`: the serial collaborator reports a receive error. -/
  | serRxErr
  /-- `Reset` (70_reset_and_hazards.md R410). -/
  | reset
deriving DecidableEq, Repr, Inhabited

end Sys2Proof
end

