-- ==== Sys2Proof/Config.lean ====
section
/-! DEFINITION. The implementation parameters of 00_scope.md R7 and the free values. A parameter R7 gives a value is a
field with that value; a parameter it marks OPEN, and every value the spec tells a model to draw, is a constant without a body. -/

namespace Sys2Proof

/-- The parameters of R7 that a step reads: timing, counts and the sensor's register addresses. The machine takes them
as one argument. The OPEN platform constants are below. -/
structure Params where
  /-- `OW_T_REQ`, ticks of the request pulse. -/
  owTReq : Nat
  /-- `OW_TIMEOUT`, the one timeout of every one-wire wait, in ticks. -/
  owTimeout : Nat
  /-- `OW_BIT1_MIN`, the least high time of a 1 bit, in ticks. -/
  owBit1Min : Nat
  /-- `OW_BACKOFF`, ticks between two attempts. -/
  owBackoff : Nat
  /-- `OW_ATTEMPTS`, attempts in total. -/
  owAttempts : Nat
  /-- `CMP_POLL_MAX`, status reads at most. -/
  cmpPollMax : Nat
  /-- `CMP_POLL_DELAY`, ticks between two status reads. -/
  cmpPollDelay : Nat
  /-- `CMP_REG_CAL1`, `CMP_REG_CAL2`, `CMP_REG_CAL3`: the calibration ranges (R283). -/
  cmpRegCal1 : Byte
  cmpRegCal2 : Byte
  cmpRegCal3 : Byte
  /-- `CMP_REG_CONFIG`, `CMP_REG_CTRL_HUM`, `CMP_REG_CTRL_MEAS`: the control registers (R287). -/
  cmpRegConfig : Byte
  cmpRegCtrlHum : Byte
  cmpRegCtrlMeas : Byte
  /-- `CMP_REG_STATUS`, the status register (R288). -/
  cmpRegStatus : Byte
  /-- `CMP_REG_DATA`, the first register of the burst (R289). -/
  cmpRegData : Byte
  /-- `SER_IBT`, the inter-byte timeout in ticks (OPEN, at least 1). -/
  serIbt : Nat
deriving DecidableEq, Repr

/-- OPEN: `CMP_SLAVE_ADDR` (92_eei_decisions.md D44). -/
opaque Config.cmpSlaveAddr : BitVec 7

/-- OPEN: `SER_IBT` less 1, so that `SER_IBT` is any number that is at least 1 (R7, D26). -/
opaque Config.serIbtLessOne : Nat

/-- OPEN: `SER_BAUD` (D27). A collaborator setting: no rule reads it. -/
opaque Config.serBaud : Nat

/-- OPEN: `OW_PIN`, 0 to 31 (D35). Used only in the GPIO-window view (20_memory.md R127 to R132). -/
opaque Config.owPin : Fin 32

/-- OPEN: `SFE_BASE` (D8), where the window lies in the host's address space (20_memory.md R101). -/
opaque Config.sfeBase : Nat

/-- `TICK`: nominal microseconds per tick. Its accuracy is OPEN and outside the model (70_reset_and_hazards.md R428). -/
def Config.tickMicros : Nat := 1

/-- The next event of an environment and a host that nothing constrains (R8: what the environment answers is a
free input of every step). Drawn only where `State.inbox` holds no event; see notes/assumptions/2.md. -/
opaque Config.freeEvent : Nat → Event

/-- A free bit: what the two synchroniser flip-flops hold after a `Reset` event (R202, R411 "unspecified"). -/
opaque Config.freeBit : Nat → Bool

/-- What a load of the GPIO window's set or clear register gives (20_memory.md R130); see notes/assumptions/22.md. -/
opaque Config.gpwReadback : Nat → Word

/-- This spec's SFE: the value column of R7 and the register addresses of R120. -/
def Config.params : Params where
  owTReq := 20000
  owTimeout := 100
  owBit1Min := 50
  owBackoff := 2000000
  owAttempts := 5
  cmpPollMax := 10
  cmpPollDelay := 10000
  cmpRegCal1 := 0x8A
  cmpRegCal2 := 0xE1
  cmpRegCal3 := 0x00
  cmpRegConfig := 0x75
  cmpRegCtrlHum := 0x72
  cmpRegCtrlMeas := 0x74
  cmpRegStatus := 0x1D
  cmpRegData := 0x1F
  serIbt := Config.serIbtLessOne + 1

end Sys2Proof
end

