-- ==== Sys2Proof/WellFormed.lean ====
section
/-! DEFINITION. Well-formedness: of a command (its operands fit the fields of 30_encoding.md R151) and of a parameter
set (the constraints of 00_scope.md R7 a model may assume). -/

namespace Sys2Proof

/-- A command's operands fit their fields: TIMEOUT is 16 bits, 0 to 65535 (R151 format FW). -/
def Instr.wf : Instr → Bool
  | .owRead => true
  | .fsRead => true
  | .cmpRead => true
  | .lineWait _ timeout => decide (timeout ≤ 65535)

/-- The constraints of R7. (`OW_PIN` is 0 to 31 by the type of `Config.owPin`.) -/
def Params.wf (p : Params) : Bool :=
  decide (1 ≤ p.owTimeout) &&
  decide (p.owBit1Min ≤ p.owTimeout) &&
  decide (1 ≤ p.owTReq) &&
  decide (1 ≤ p.owBackoff) &&
  decide (1 ≤ p.owAttempts) && decide (p.owAttempts ≤ 7) &&
  decide (1 ≤ p.cmpPollMax) && decide (p.cmpPollMax ≤ 15) &&
  decide (1 ≤ p.serIbt)

end Sys2Proof
end

