-- ==== Sys2Proof/Decode.lean ====
section
/-! DEFINITION. Decoding a CMD value (30_encoding.md R153, total over all 2^32 values) and encoding a command (R151, R164). -/

namespace Sys2Proof

/-- Why a CMD value is ILLEGAL (R154). -/
inductive DecodeError where
  /-- OPC is none of 0x01 to 0x04. -/
  | unassignedOpcode (opc : BitVec 8)
  /-- OPC is assigned, but a reserved bit is set. -/
  | reservedBits (opc : BitVec 8)
deriving DecidableEq, Repr

/-- What a CMD value decodes to. -/
inductive Decoded where
  | command (i : Instr)
  | illegal (why : DecodeError)
deriving DecidableEq, Repr

/-- The field OPC, bits 7:0 (R151). -/
def opcOf (v : Word) : BitVec 8 := v.extractLsb' 0 8

/-- The opcodes of R152. -/
def opcOwRead : BitVec 8 := 0x01
def opcFsRead : BitVec 8 := 0x02
def opcCmpRead : BitVec 8 := 0x03
def opcLineWait : BitVec 8 := 0x04

/-- The opcode of a command (R152). -/
def Instr.opcode : Instr → BitVec 8
  | .owRead => opcOwRead
  | .fsRead => opcFsRead
  | .cmpRead => opcCmpRead
  | .lineWait _ _ => opcLineWait

/-- The name of an illegal value's fault (R154). -/
def illegalReason (v : Word) : DecodeError :=
  if opcOf v = opcOwRead ∨ opcOf v = opcFsRead ∨ opcOf v = opcCmpRead ∨ opcOf v = opcLineWait then
    .reservedBits (opcOf v)
  else
    .unassignedOpcode (opcOf v)

/-- `decode` of R153, by the match and mask of each row of R152. -/
def decode (v : Word) : Decoded :=
  if v &&& 0xFFFFFFFF = 0x00000001 then .command .owRead
  else if v &&& 0xFFFFFFFF = 0x00000002 then .command .fsRead
  else if v &&& 0xFFFFFFFF = 0x00000003 then .command .cmpRead
  else if v &&& 0x0000FEFF = 0x00000004 then
    .command (.lineWait (v.getLsbD 8) (v.extractLsb' 16 16).toNat)
  else .illegal (illegalReason v)

/-- The decoded command, where there is one. -/
def Decoded.toOption : Decoded → Option Instr
  | .command i => some i
  | .illegal _ => none

/-- The CMD value of a command (R164). An operand is cut to its field; `Instr.wf` says that it fits. -/
def encode : Instr → Word
  | .owRead => 0x00000001
  | .fsRead => 0x00000002
  | .cmpRead => 0x00000003
  | .lineWait level timeout =>
    (BitVec.ofNat 32 timeout <<< 16) ||| (if level then 0x00000100 else 0x00000000) ||| 0x00000004

/-- Bits 31:0 of a table row's word: the one container is the 32-bit value written to CMD (R150, R155). Bits at or
above `nbits` are 0. -/
def tableWord (nbits w : Nat) : Word := BitVec.ofNat 32 (w % 2 ^ nbits)

/-- The command this decoder reads from an instruction word numbered as spec/opcode_table.json numbers it. SFE stores no
instruction bytes: the word is given to CMD whole (R102, R150). -/
def decodeTableWord (nbits w : Nat) : Option Instr := (decode (tableWord nbits w)).toOption

end Sys2Proof
end

