-- ==== Sys2Proof/Machine/State.lean ====
section
/-! DEFINITION. The state of SFE: every host register of 10_state.md R40 and every piece of hidden state of R70 to R75,
as plain data, grouped by the unit that owns it; the faults and refusals of a step; and the state after reset (70_reset_and_hazards.md
R411). -/

namespace Sys2Proof.Machine

open Sys2Proof

/-- The result codes of 60_exceptions.md R370. The reserved codes 9 to 15 are not representable. -/
inductive ResultCode where
  | ok
  | timeout
  | checksumMismatch
  | framingMismatch
  | dataNotReady
  | transportUnavailable
  | badCommand
  | arithFault
  | retriesExhausted
deriving DecidableEq, Repr

/-- `active`: the running command (R70). -/
inductive Active where
  | none
  | ow
  | fs
  | cmp
  | lw
deriving DecidableEq, Repr

/-- The phases of the one-wire engine (41_onewire.md R231). -/
inductive OwPhase where
  | idle
  | requestPulse
  | releaseHigh
  | ackLow
  | ackHigh
  | ackLow2
  | bitHigh
  | bitLow
  | backoff
deriving DecidableEq, Repr

/-- `phase`: the sequencer's control point (R70, R77). -/
inductive Phase where
  /-- Nothing runs. -/
  | idle
  /-- OW.READ accepted, tick 0 not yet come (R230 "await the next Tick event"). -/
  | owStart
  /-- OW.READ in the phase `p` of R231. -/
  | ow (p : OwPhase)
  /-- LINE.WAIT: the next Tick evaluates its wait (R216). -/
  | lwWait
  /-- FS.READ: the answer to `SerOpen` is awaited (R340). -/
  | fsOpen
  /-- FS.READ: the answer to `SerWrite` is awaited (R341). -/
  | fsWrite
  /-- FS.READ: `SerRecv9` runs (R342). -/
  | fsReceive
  /-- CMP.READ: the answer to `BusOpen` is awaited (R282). -/
  | cmpOpen
  /-- CMP.READ: the answers to the three calibration reads are awaited (R283). -/
  | cmpCal1
  | cmpCal2
  | cmpCal3
  /-- CMP.READ: the answers to the three control writes are awaited (R287). -/
  | cmpConfig
  | cmpCtrlHum
  | cmpCtrlMeas
  /-- CMP.READ: the answer to a status read is awaited (R288). -/
  | cmpStatus
  /-- CMP.READ: the delay before the next status read (R288). -/
  | cmpDelay
  /-- CMP.READ: the answer to the burst read is awaited (R289). -/
  | cmpBurst
  /-- CMP.READ: the answer to `BusClose` is awaited; the command then ends with `code` (R301). -/
  | cmpClose (code : ResultCode)
deriving DecidableEq, Repr

/-- A bus-port request with its operands (20_memory.md R118). -/
inductive BusReq where
  | openDev (addr : BitVec 7)
  | read1 (reg : Byte)
  | readN (reg : Byte) (count : Nat)
  | write2 (reg data : Byte)
  | closeDev
deriving DecidableEq, Repr

/-- A serial-port request that waits for an answer, with its operands (R124). -/
inductive SerReq where
  | openPort
  | write (bytes : List Byte)
deriving DecidableEq, Repr

/-- `pending`: the one outstanding port request (R75). The receive of R342 is not one of them (DESIGN CHOICE,
notes/assumptions/21.md). -/
inductive Pending where
  | none
  | bus (r : BusReq)
  | ser (r : SerReq)
deriving DecidableEq, Repr

/-- Why a host access gets an error response on the host bus (R103, R380). -/
inductive AccessError where
  /-- The access is narrower than 32 bits. -/
  | narrow
  /-- The access is at an offset that is not a multiple of 4. -/
  | misaligned
deriving DecidableEq, Repr

/-- What the host bus answers to a host access (R9, R103). A field of the model, not of SFE. -/
inductive HostReply where
  /-- No host access has happened since reset. -/
  | none
  /-- A write was performed. -/
  | done
  /-- A read was performed and returned 32 bits. -/
  | data (v : Word)
  /-- The access itself ended in a fault: an error response, no data, no change of SFE's state. -/
  | fault (why : AccessError)
deriving DecidableEq, Repr

/-- STATUS (0x008) but for the live field OW_PHASE, which is a view of `phase` (R43 to R48). -/
structure StatusReg where
  busy : Bool
  done : Bool
  overrun : Bool
  result : ResultCode
  lastOp : BitVec 8
deriving DecidableEq, Repr

/-- INT_EN (0x00C), R50. -/
structure IntEnReg where
  doneIe : Bool
  ovrIe : Bool
deriving DecidableEq, Repr

/-- The line: LINE_CTRL.MODE and OUT (R51, R52) and the input synchroniser (R72). LINE_CTRL.IN is `sync2` (R53). -/
structure LineState where
  mode : Bool
  out : Bool
  sync1 : Bool
  sync2 : Bool
deriving DecidableEq, Repr

/-- OW_HUM, OW_TEMP, OW_RAW0, OW_RAW1, OW_STAT (R55 to R59), each at the width of its defined bits. -/
structure OwRegs where
  hum : BitVec 16
  temp : BitVec 32
  raw0 : BitVec 32
  raw1 : BitVec 8
  stat : BitVec 18
deriving DecidableEq, Repr

/-- CMP_TEMP to CMP_STAT (R62 to R69), each at the width of its defined bits. -/
structure CmpRegs where
  temp : BitVec 32
  pres : BitVec 32
  hum : BitVec 32
  tfine : BitVec 32
  adcT : BitVec 20
  adcP : BitVec 20
  adcH : BitVec 16
  stat : BitVec 9
deriving DecidableEq, Repr

/-- The sequencer (R70). `k` counts ticks; R70 gives it "at least 21 bits", and it never wraps. -/
structure Sequencer where
  active : Active
  phase : Phase
  k : Nat
  lwLevel : Bool
  lwTimeout : BitVec 16
deriving DecidableEq, Repr

/-- The one-wire engine (R71). -/
structure OwEngine where
  attempt : BitVec 3
  bitidx : BitVec 6
  shreg : BitVec 40
  /-- `fr`: the reason of the most recent failed attempt, a result code; OK if none failed (R59). -/
  fr : ResultCode
  /-- `fp`: the phase of the most recent failure, Idle (code 0) if none. -/
  fp : OwPhase
  /-- `fb`: the bit index of the most recent failure. -/
  fb : BitVec 6
deriving DecidableEq, Repr

/-- The coefficient file (R73, R286): each coefficient at its width; its sign is in the way it is read. -/
structure Coeffs where
  parT1 : BitVec 16
  parT2 : BitVec 16
  parT3 : BitVec 8
  parP1 : BitVec 16
  parP2 : BitVec 16
  parP3 : BitVec 8
  parP4 : BitVec 16
  parP5 : BitVec 16
  parP6 : BitVec 8
  parP7 : BitVec 8
  parP8 : BitVec 16
  parP9 : BitVec 16
  parP10 : BitVec 8
  parH1 : BitVec 12
  parH2 : BitVec 12
  parH3 : BitVec 8
  parH4 : BitVec 8
  parH5 : BitVec 8
  parH6 : BitVec 8
  parH7 : BitVec 8
deriving DecidableEq, Repr

/-- The compensation engine (R73). -/
structure CmpEngine where
  cfg : BitVec 15
  img : Vector Byte 42
  coef : Coeffs
  burst : Vector Byte 8
  adcT : BitVec 20
  adcP : BitVec 20
  adcH : BitVec 16
  tFine : BitVec 32
  polls : BitVec 4
  pbr : Bool
deriving DecidableEq, Repr

/-- The framed-serial engine (R74). -/
structure FsEngine where
  rx : Vector Byte 9
  nrx : BitVec 4
deriving DecidableEq, Repr

/-- The ports (R75). -/
structure Ports where
  busOpen : Bool
  serOpen : Bool
  pending : Pending
deriving DecidableEq, Repr

/-- The state of SFE. The last three fields are the model's own: the host bus's last answer, the events still to come,
and the counter of free values drawn. -/
structure State where
  /-- STATUS (R43 to R49). -/
  status : StatusReg
  /-- INT_EN (R50). -/
  intEn : IntEnReg
  /-- LINE_CTRL and the synchroniser (R51 to R53, R72). -/
  line : LineState
  /-- LINE_ELAPSED bits 15:0 (R54). -/
  lineElapsed : BitVec 16
  /-- The one-wire result registers (R55 to R59). -/
  owRegs : OwRegs
  /-- FS_VALUE bits 15:0 (R60). -/
  fsValue : BitVec 16
  /-- CMP_CFG bits 14:0 (R61). -/
  cmpCfg : BitVec 15
  /-- The compensation result registers (R62 to R69). -/
  cmpRegs : CmpRegs
  /-- The sequencer (R70). -/
  seq : Sequencer
  /-- The one-wire engine (R71). -/
  ow : OwEngine
  /-- The compensation engine (R73). -/
  cmp : CmpEngine
  /-- The framed-serial engine (R74). -/
  fs : FsEngine
  /-- The port state (R75). -/
  ports : Ports
  /-- The model's own: the host bus's answer to the last host access. -/
  reply : HostReply
  /-- The model's own: the events to come, the next one first (R8, R9). -/
  inbox : List Event
  /-- The model's own: how many free values have been drawn. -/
  draws : Nat
deriving DecidableEq, Repr

/-- Why a step stops in a fault. -/
inductive Fault where
  /-- Raised by `handleEvent` where the next event is a `BusDone` with no bus request outstanding, or a `SerDone` with no
  serial open or write outstanding: R9 does not enable it, so the machine has no transition for it. Safe: the environment
  of the spec cannot do this. -/
  | eventNotEnabled
deriving DecidableEq, Repr

/-- Why a step or an operation is refused. -/
inductive Refusal where
  /-- Raised by an arm of `exec` whose instruction has no meaning yet. Safe. No arm raises it in this model. -/
  | notModelled (mnemonic : String)
  /-- Raised by the pin operations of the GPIO-window view before the window is initialised: 20_memory.md R132 and
  93_implementation_defined.md ask a model to refuse them. Safe. No step of SFE raises it. -/
  | pinNotInitialised
  /-- Raised by a load or a store of the GPIO-window view that the spec gives no meaning: an offset 20_memory.md R131 does not
  list, or a store to the level register. Safe. No step of SFE raises it, and no pin operation does. -/
  | gpwAccessNotGiven
deriving DecidableEq, Repr

/-- The coefficient file at reset: 0 (R73, R411). -/
def Coeffs.zero : Coeffs :=
  ⟨0, 0, 0, 0, 0, 0, 0, 0, 0, 0, 0, 0, 0, 0, 0, 0, 0, 0, 0, 0⟩

/-- The machine right after reset (R411). The two synchroniser flip-flops, which R411 leaves unspecified, hold the value
of notes/assumptions/1.md. -/
def State.reset : State where
  status := { busy := false, done := false, overrun := false, result := .ok, lastOp := 0x00 }
  intEn := { doneIe := false, ovrIe := false }
  -- DESIGN CHOICE (notes/assumptions/1.md, unsafe): sync1 and sync2.
  line := { mode := false, out := true, sync1 := false, sync2 := false }
  lineElapsed := 0
  owRegs := { hum := 0, temp := 0, raw0 := 0, raw1 := 0, stat := 0 }
  fsValue := 0
  cmpCfg := 0x1110
  cmpRegs := { temp := 0, pres := 0, hum := 0, tfine := 0, adcT := 0, adcP := 0, adcH := 0, stat := 0 }
  seq := { active := .none, phase := .idle, k := 0, lwLevel := false, lwTimeout := 0 }
  ow := { attempt := 0, bitidx := 0, shreg := 0, fr := .ok, fp := .idle, fb := 0 }
  cmp := { cfg := 0, img := Vector.replicate 42 0, coef := Coeffs.zero, burst := Vector.replicate 8 0, adcT := 0, adcP := 0,
           adcH := 0, tFine := 0, polls := 0, pbr := false }
  fs := { rx := Vector.replicate 9 0, nrx := 0 }
  ports := { busOpen := false, serOpen := false, pending := .none }
  reply := .none
  inbox := []
  draws := 0

end Sys2Proof.Machine
end

