-- ==== Sys2Proof/Machine/Compensation.lean ====
section
/-! DEFINITION. The fixed-point compensation of 42_compensation.md R290 to R298, line by line, over mathematical
integers with the wraps of R13 and R14. -/

namespace Sys2Proof.Machine

open Sys2Proof

/-- Fine temperature (R290). -/
def compTFine (c : Coeffs) (adcT : Int) : Int :=
  let v1 := w64 (asr adcT 3 - zext c.parT1 * 2)
  let v2 := w64 (asr (w64 (v1 * sext c.parT2)) 11)
  let v3 := w64 (asr (w64 (asr v1 1 * asr v1 1)) 12)
  let v3 := w64 (asr (w64 (v3 * w32 (sext c.parT3 * 16))) 14)
  w32 (v2 + v3)

/-- Temperature in hundredths of a degree (R291). -/
def compTemp (tFine : Int) : Int := w16 (asr (w32 (w32 (tFine * 5) + 128)) 8)

/-- The first `v1` of R293, and `a = asr(v1, 2)`. -/
def presV1 (tFine : Int) : Int := w32 (asr tFine 1 - 64000)
def presA (tFine : Int) : Int := asr (presV1 tFine) 2

/-- The `v2` of R293. -/
def presV2 (c : Coeffs) (tFine : Int) : Int :=
  let v1 := presV1 tFine
  let a := presA tFine
  let v2 := asr (w32 (asr (w32 (a * a)) 11 * sext c.parP6)) 2
  let v2 := w32 (v2 + shl32 (w32 (v1 * sext c.parP5)) 1)
  w32 (asr v2 2 + shl32 (sext c.parP4) 16)

/-- The divisor of R293. -/
def presDivisor (c : Coeffs) (tFine : Int) : Int :=
  let v1 := presV1 tFine
  let a := presA tFine
  let v1 := w32 (asr (w32 (asr (w32 (a * a)) 13 * shl32 (sext c.parP3) 5)) 3 + asr (w32 (sext c.parP2 * v1)) 1)
  let v1 := asr v1 18
  asr (w32 ((32768 + v1) * zext c.parP1)) 15

/-- The numerator of R293. -/
def presNumerator (c : Coeffs) (adcP tFine : Int) : Int :=
  let pc := w32 (1048576 - adcP)
  w32 (w32 (pc - asr (presV2 c tFine) 12) * 3125)

/-- The branch test of R294: `pc ≥ 2^30`. -/
def presBranch (pc : Int) : Bool := decide ((2 ^ 30 : Int) ≤ pc)

/-- The quotient of R294: divide first where the branch is taken, double first otherwise. -/
def presQuotient (pc v1 : Int) : Int :=
  if presBranch pc then shl32 (tdiv pc v1) 1 else tdiv (shl32 pc 1) v1

/-- Pressure, part 2 (R296), as a signed number. CMP_PRES holds its 32-bit pattern. -/
def presFinal (c : Coeffs) (pc : Int) : Int :=
  let q := asr pc 3
  let u1 := asr (w32 (sext c.parP9 * asr (w32 (q * q)) 13)) 12
  let u2 := asr (w32 (asr pc 2 * sext c.parP8)) 13
  let r := asr pc 8
  let u3 := asr (w32 (w32 (w32 (r * r) * r) * zext c.parP10)) 17
  w32 (pc + asr (w32 (u1 + u2 + u3 + shl32 (sext c.parP7) 7)) 4)

/-- `comp_pres` (R293 to R296): the pressure pattern and the branch, or nothing (`fault`) where the divisor is 0 (R295). -/
def compPres (c : Coeffs) (adcP tFine : Int) : Option (BitVec 32 × Bool) :=
  let v1 := presDivisor c tFine
  let pc := presNumerator c adcP tFine
  if v1 = 0 then none else some (u32 (presFinal c (presQuotient pc v1)), presBranch pc)

/-- `comp_hum` before the clamp (R297). -/
def compHumRaw (c : Coeffs) (adcH tFine : Int) : Int :=
  let ts := asr (w32 (w32 (tFine * 5) + 128)) 8
  let v1 := w32 (w32 (adcH - w32 (zext c.parH1 * 16)) - asr (tdiv (w32 (ts * sext c.parH3)) 100) 1)
  let inner := w32 (w32 (tdiv (w32 (ts * sext c.parH4)) 100
    + tdiv (asr (w32 (ts * tdiv (w32 (ts * sext c.parH5)) 100)) 6) 100) + 16384)
  let v2 := asr (w32 (zext c.parH2 * inner)) 10
  let v3 := w32 (v1 * v2)
  let v4 := shl32 (zext c.parH6) 7
  let v4 := asr (w32 (v4 + tdiv (w32 (ts * sext c.parH7)) 100)) 4
  let v5 := asr (w32 (asr v3 14 * asr v3 14)) 10
  let v6 := asr (w32 (v4 * v5)) 1
  asr (w32 (asr (w32 (v3 + v6)) 10 * 1000)) 12

/-- The clamp (R298): to 0 .. 100000. -/
def clampHum (h : Int) : Int := min (max h 0) 100000

/-- The clamped humidity in thousandths of a percent (R297, R298). -/
def compHum (c : Coeffs) (adcH tFine : Int) : Int := clampHum (compHumRaw c adcH tFine)

end Sys2Proof.Machine
end

