-- ==== Sys2Proof/Machine/Flags.lean ====
section
/-! DEFINITION. SFE's flags (10_state.md R78): the result codes, the STATUS word, its write-1-to-clear semantics and
the interrupt line. -/

namespace Sys2Proof.Machine

open Sys2Proof

/-- The 4-bit code of a result (60_exceptions.md R370). -/
def ResultCode.code : ResultCode → BitVec 4
  | .ok => 0
  | .timeout => 1
  | .checksumMismatch => 2
  | .framingMismatch => 3
  | .dataNotReady => 4
  | .transportUnavailable => 5
  | .badCommand => 6
  | .arithFault => 7
  | .retriesExhausted => 8

/-- The 4-bit code of a one-wire phase (41_onewire.md R231). -/
def OwPhase.code : OwPhase → BitVec 4
  | .idle => 0
  | .requestPulse => 1
  | .releaseHigh => 2
  | .ackLow => 3
  | .ackHigh => 4
  | .ackLow2 => 5
  | .bitHigh => 6
  | .bitLow => 7
  | .backoff => 8

/-- STATUS.OW_PHASE (R48): the phase of a running OW.READ, and 0 where none runs. It reads 1 from acceptance on (R231). -/
def Phase.owPhase : Phase → BitVec 4
  | .owStart => OwPhase.requestPulse.code
  | .ow p => p.code
  | .idle => 0
  | .lwWait => 0
  | .fsOpen => 0
  | .fsWrite => 0
  | .fsReceive => 0
  | .cmpOpen => 0
  | .cmpCal1 => 0
  | .cmpCal2 => 0
  | .cmpCal3 => 0
  | .cmpConfig => 0
  | .cmpCtrlHum => 0
  | .cmpCtrlMeas => 0
  | .cmpStatus => 0
  | .cmpDelay => 0
  | .cmpBurst => 0
  | .cmpClose _ => 0

/-- The word a read of STATUS returns (R43 to R49): bits 3 and 31:20 read 0. -/
def statusWord (s : State) : Word :=
  0#12 ++ s.seq.phase.owPhase ++ s.status.lastOp ++ s.status.result.code ++ 0#1 ++
    BitVec.ofBool s.status.overrun ++ BitVec.ofBool s.status.done ++ BitVec.ofBool s.status.busy

/-- The word a read of INT_EN returns (R50). -/
def intEnWord (s : State) : Word :=
  0#30 ++ BitVec.ofBool s.intEn.ovrIe ++ BitVec.ofBool s.intEn.doneIe

/-- The interrupt line (R374), a function of the state and so re-evaluated after every event. -/
def irq (s : State) : Bool :=
  (s.status.done && s.intEn.doneIe) || (s.status.overrun && s.intEn.ovrIe)

/-- A host write of `v` to STATUS (R49, R375): bit 1 clears DONE, bit 2 clears OVERRUN, every other bit is ignored. -/
def writeStatus (v : Word) (s : State) : State :=
  { s with status := { s.status with
      done := s.status.done && !v.getLsbD 1
      overrun := s.status.overrun && !v.getLsbD 2 } }

/-- A host write of `v` to INT_EN (R50). -/
def writeIntEn (v : Word) (s : State) : State :=
  { s with intEn := { doneIe := v.getLsbD 0, ovrIe := v.getLsbD 1 } }

/-- A CMD write while BUSY = 1 sets OVERRUN and changes nothing else (R45, R378). -/
def setOverrun (s : State) : State :=
  { s with status := { s.status with overrun := true } }

end Sys2Proof.Machine
end

