-- ==== Sys2Proof/Machine/Operands.lean ====
section
/-! DEFINITION. The operands and data formats of 30_encoding.md: the LINE.WAIT operands (R156), the one-wire frame
(R157, R158), the serial frames (R159, R160), the sensor control bytes (R161), the raw-sample burst (R162), and
the calibration image (42_compensation.md R283 to R285). -/

namespace Sys2Proof.Machine

open Sys2Proof

/-! ### One-wire frame -/

/-- Frame bit `i`, numbered by arrival: `shreg[39 - i]` (R71, R241). -/
def frameBit (shreg : BitVec 40) (i : Nat) : Bool := shreg.getLsbD (39 - i)

/-- `shreg[39 - i] <- b` (R239). -/
def setFrameBit (shreg : BitVec 40) (i : Nat) (b : Bool) : BitVec 40 :=
  if b then shreg ||| (1#40 <<< (39 - i)) else shreg &&& ~~~(1#40 <<< (39 - i))

/-- Byte `Bj` of the frame (R157, R241): bits `8j` to `8j+7` by arrival, the first one most significant. -/
def frameByte (shreg : BitVec 40) (j : Nat) : Byte := shreg.extractLsb' (32 - 8 * j) 8

/-- Humidity `H = B0·256 + B1` (R242). -/
def frameHumidity (shreg : BitVec 40) : BitVec 16 := frameByte shreg 0 ++ frameByte shreg 1

/-- Temperature `T` (R243): sign and magnitude, `B2[7]` the sign. -/
def frameTemperature (shreg : BitVec 40) : Int :=
  let mag : Int := ((frameByte shreg 2 &&& 0x7F).toNat * 256 + (frameByte shreg 3).toNat : Nat)
  if (frameByte shreg 2).getLsbD 7 then -mag else mag

/-- `checksum_ok` (R244): B4 is the sum of B0 to B3 modulo 256. -/
def frameChecksumOk (shreg : BitVec 40) : Bool :=
  frameByte shreg 4 == frameByte shreg 0 + frameByte shreg 1 + frameByte shreg 2 + frameByte shreg 3

/-- `{B0, B1, B2, B3}`, the value of OW_RAW0 (R57, R245). -/
def frameRaw0 (shreg : BitVec 40) : BitVec 32 :=
  frameByte shreg 0 ++ frameByte shreg 1 ++ frameByte shreg 2 ++ frameByte shreg 3

/-! ### Serial frames -/

/-- The command frame (R160). -/
def commandFrame : List Byte := [0xFF, 0x01, 0x86, 0x00, 0x00, 0x00, 0x00, 0x00, 0x79]

/-- The framing check (43_serial.md R343). -/
def framingOk (rx : Vector Byte 9) : Bool := rx[0] == 0xFF && rx[1] == 0x86

/-- `cks(rx)` (R344): 0xFF minus the sum of bytes 1 to 7, plus 1, all modulo 256. -/
def serialChecksum (rx : Vector Byte 9) : Byte :=
  0xFF - (rx[1] + rx[2] + rx[3] + rx[4] + rx[5] + rx[6] + rx[7]) + 1

/-- The checksum check (R345). -/
def serialChecksumOk (rx : Vector Byte 9) : Bool := serialChecksum rx == rx[8]

/-- The value `rx[2]·256 + rx[3]` (R346). -/
def serialValue (rx : Vector Byte 9) : BitVec 16 := rx[2] ++ rx[3]

/-! ### The compensation settings and sensor bytes -/

/-- The fields of CMP_CFG and of its latched copy (10_state.md R61). -/
def cfgFilter (cfg : BitVec 15) : BitVec 3 := cfg.extractLsb' 0 3
def cfgOsrsH (cfg : BitVec 15) : BitVec 3 := cfg.extractLsb' 4 3
def cfgOsrsT (cfg : BitVec 15) : BitVec 3 := cfg.extractLsb' 8 3
def cfgOsrsP (cfg : BitVec 15) : BitVec 3 := cfg.extractLsb' 12 3

/-- The bits of CMP_CFG that are not reserved: 14:12, 10:8, 6:4, 2:0 (R61). -/
def cfgMask : BitVec 15 := 0x7777

/-- The byte written to CONFIG: `cfg.FILTER << 2` (R161). -/
def configByte (cfg : BitVec 15) : Byte := (cfgFilter cfg).setWidth 8 <<< 2

/-- The byte written to CTRL_HUM: `cfg.OSRS_H` (R161). -/
def ctrlHumByte (cfg : BitVec 15) : Byte := (cfgOsrsH cfg).setWidth 8

/-- The byte written to CTRL_MEAS: `(cfg.OSRS_T << 5) | (cfg.OSRS_P << 2) | 0b01` (R161). -/
def ctrlMeasByte (cfg : BitVec 15) : Byte :=
  ((cfgOsrsT cfg).setWidth 8 <<< 5) ||| ((cfgOsrsP cfg).setWidth 8 <<< 2) ||| 0b01

/-- A 20-bit ADC value from three burst bytes (R162): the low 4 bits of the third are ignored. -/
def adc20 (msb lsb xlsb : Byte) : BitVec 20 :=
  (msb.setWidth 20 <<< 12) ||| (lsb.setWidth 20 <<< 4) ||| (xlsb >>> 4).setWidth 20

/-- `adc_p`, `adc_t`, `adc_h` of a burst (R162). -/
def burstAdcP (b : Vector Byte 8) : BitVec 20 := adc20 b[0] b[1] b[2]
def burstAdcT (b : Vector Byte 8) : BitVec 20 := adc20 b[3] b[4] b[5]
def burstAdcH (b : Vector Byte 8) : BitVec 16 := (b[6].setWidth 16 <<< 8) ||| b[7].setWidth 16

/-- Store `bytes` at index `at_` and after, dropping what lies beyond the end (R283: `img[0..22] <- b`). -/
def storeBytes {n : Nat} (v : Vector Byte n) (at_ : Nat) : List Byte → Vector Byte n
  | [] => v
  | b :: bs => storeBytes (v.setIfInBounds at_ b) (at_ + 1) bs

/-- `le16` of R285: a two-byte little-endian value. -/
def le16 (lo hi : Byte) : BitVec 16 := hi ++ lo

/-- `pack_coefficients` (R285), from the image layout of R284. -/
def packCoefficients (img : Vector Byte 42) : Coeffs where
  parT1 := le16 img[31] img[32]
  parT2 := le16 img[0] img[1]
  parT3 := img[2]
  parP1 := le16 img[4] img[5]
  parP2 := le16 img[6] img[7]
  parP3 := img[8]
  parP4 := le16 img[10] img[11]
  parP5 := le16 img[12] img[13]
  parP6 := img[15]
  parP7 := img[14]
  parP8 := le16 img[18] img[19]
  parP9 := le16 img[20] img[21]
  parP10 := img[22]
  parH1 := (img[25].setWidth 12 <<< 4) ||| (img[24] &&& 0x0F).setWidth 12
  parH2 := (img[23].setWidth 12 <<< 4) ||| (img[24] >>> 4).setWidth 12
  parH3 := img[26]
  parH4 := img[27]
  parH5 := img[28]
  parH6 := img[29]
  parH7 := img[30]

/-! ### LINE.WAIT operands -/

/-- `lw_level <- L`, `lw_timeout <- TIMEOUT` (R156): a tick count, not scaled, kept in 16 bits (R70). -/
def latchWaitOperands (level : Bool) (timeout : Nat) (s : State) : State :=
  { s with seq := { s.seq with lwLevel := level, lwTimeout := BitVec.ofNat 16 timeout } }

end Sys2Proof.Machine
end

