-- ==== Sys2Proof/Machine/Ops.lean ====
section
/-! DEFINITION. The operations the units share: acceptance of a command (60_exceptions.md R378), its end with a
result code (R372), which is how SFE takes every exceptional condition, the rejection of an illegal value (R371), the port requests
(20_memory.md R118, R124) and the tick-counted delay (00_scope.md R15). -/

namespace Sys2Proof.Machine

open Sys2Proof

/-- Acceptance (R378). While BUSY the write only sets OVERRUN. Otherwise LAST_OP is set, DONE and RESULT are
cleared, BUSY is set, and the unit's "on acceptance" step `start` happens in the same event. -/
def accept (opc : BitVec 8) (start : State → State) (s : State) : State :=
  if s.status.busy then setOverrun s
  else start { s with status := { s.status with lastOp := opc, done := false, result := .ok, busy := true } }

/-- An illegal CMD value (R371, R378): dropped with OVERRUN while BUSY (R376); otherwise it ends at once with
BAD_COMMAND, and BUSY is never set. -/
def rejectCommand (v : Word) (s : State) : State :=
  if s.status.busy then setOverrun s
  else { s with status := { s.status with lastOp := opcOf v, result := .badCommand, done := true } }

/-- `finish(code)` (R372): RESULT, DONE, BUSY and the sequencer, all at once. The unit's registers are written by its
caller in the same event. -/
def finish (code : ResultCode) (s : State) : State :=
  { s with
    status := { s.status with result := code, done := true, busy := false }
    seq := { s.seq with active := .none, phase := .idle } }

/-- Move the sequencer to the control point `ph`. -/
def goto (ph : Phase) (s : State) : State :=
  { s with seq := { s.seq with phase := ph } }

/-- Move the sequencer to `ph` and set the tick counter `k`. -/
def gotoAt (ph : Phase) (k : Nat) (s : State) : State :=
  { s with seq := { s.seq with phase := ph, k := k } }

/-- Issue a bus request and wait for its answer at the control point `ph` (20_memory.md R118). -/
def issueBus (r : BusReq) (ph : Phase) (s : State) : State :=
  { s with
    seq := { s.seq with phase := ph }
    ports := { s.ports with pending := .bus r } }

/-- Issue a serial request and wait for its answer at the control point `ph` (R124). -/
def issueSer (r : SerReq) (ph : Phase) (s : State) : State :=
  { s with
    seq := { s.seq with phase := ph }
    ports := { s.ports with pending := .ser r } }

/-- `Delay(n)` (R15): one tick passes; at the `n`-th the delay ends, and `next` happens in that same event. -/
def delayTick (n : Nat) (next : State → State) (s : State) : State :=
  if n ≤ s.seq.k + 1 then next { s with seq := { s.seq with k := s.seq.k + 1 } }
  else { s with seq := { s.seq with k := s.seq.k + 1 } }

end Sys2Proof.Machine
end

