-- ==== Sys2Proof/Machine/CmpRead.lean ====
section
/-! DEFINITION. The compensation engine's measurement sequence: CMP.READ (42_compensation.md R280 to R289, R299 to R307). -/

namespace Sys2Proof.Machine

open Sys2Proof

/-- CMP.READ on acceptance (R280, R281): the configuration is latched, and `BusOpen` is issued in the same event. -/
def cmpStart (s : State) : State :=
  let s1 := { s with
    seq := { s.seq with active := .cmp }
    cmp := { s.cmp with cfg := s.cmpCfg, polls := 0, pbr := false } }
  issueBus (.openDev Config.cmpSlaveAddr) .cmpOpen s1

/-- `stat_word()` (R307): PBR, four reserved zeros, POLLS. -/
def cmpStatWord (s : State) : BitVec 9 := BitVec.ofBool s.cmp.pbr ++ 0#4 ++ s.cmp.polls

/-- The failure writes and the end of the command (R300). -/
def cmpFail (code : ResultCode) (s : State) : State :=
  finish code { s with cmpRegs := {
    temp := 0, pres := 0, hum := 0, tfine := 0, adcT := 0, adcP := 0, adcH := 0, stat := cmpStatWord s } }

/-- The success writes and the end of the command (R299). The results are those of R291, R296 and R298 for the raw
sample and the fine temperature this command computed (DEDUCED, notes/assumptions/11.md). -/
def cmpSucceed (s : State) : State :=
  let tf := sext s.cmp.tFine
  finish .ok { s with cmpRegs := {
    temp := u32 (compTemp tf)
    pres := match compPres s.cmp.coef (zext s.cmp.adcP) tf with
      | some (pres, _) => pres
      | none => 0
    hum := u32 (compHum s.cmp.coef (zext s.cmp.adcH) tf)
    tfine := s.cmp.tFine
    adcT := s.cmp.adcT
    adcP := s.cmp.adcP
    adcH := s.cmp.adcH
    stat := cmpStatWord s } }

/-- Issue the one `BusClose` of every path after a successful open (R301); the command then ends with `code`. -/
def cmpClose (code : ResultCode) (s : State) : State := issueBus .closeDev (.cmpClose code) s

/-- Issue the next status read (R288): `polls` counts the reads issued. -/
def cmpPoll (p : Params) (s : State) : State :=
  issueBus (.read1 p.cmpRegStatus) .cmpStatus { s with cmp := { s.cmp with polls := s.cmp.polls + 1 } }

/-- A status read answered (R288): bit 7 set ends the poll and the burst follows; the last read not ready ends the
command DATA_NOT_READY; otherwise `Delay(CMP_POLL_DELAY)` begins (a delay of 0 ticks is over at once: DESIGN CHOICE,
notes/assumptions/12.md). -/
def cmpStatus (p : Params) (st : Byte) (s : State) : State :=
  if st.getLsbD 7 then issueBus (.readN p.cmpRegData 8) .cmpBurst s
  else if p.cmpPollMax ≤ s.cmp.polls.toNat then cmpClose .dataNotReady s
  else if p.cmpPollDelay = 0 then cmpPoll p s
  else gotoAt .cmpDelay 0 s

/-- The burst answered (R289 to R295): unpack, compute the fine temperature, and take the fault of a zero divisor. -/
def cmpCompute (bytes : List Byte) (s : State) : State :=
  let burst := storeBytes s.cmp.burst 0 bytes
  let adcT := burstAdcT burst
  let adcP := burstAdcP burst
  let tf := compTFine s.cmp.coef (zext adcT)
  let s1 := { s with cmp := { s.cmp with
    burst := burst, adcT := adcT, adcP := adcP, adcH := burstAdcH burst, tFine := u32 tf } }
  match compPres s.cmp.coef (zext adcP) tf with
  | none => cmpClose .arithFault { s1 with cmp := { s1.cmp with pbr := false } }
  | some (_, branch) => cmpClose .ok { s1 with cmp := { s1.cmp with pbr := branch } }

/-- Store a calibration range (R283). -/
def cmpStoreCal (at_ : Nat) (bytes : List Byte) (s : State) : State :=
  { s with cmp := { s.cmp with img := storeBytes s.cmp.img at_ bytes } }

/-- The image is whole: pack the coefficients (R285). -/
def cmpPack (s : State) : State := { s with cmp := { s.cmp with coef := packCoefficients s.cmp.img } }

/-- The end of the command in the event of the close's `BusDone` (R299 to R301). -/
def cmpEnd (code : ResultCode) (s : State) : State :=
  match code with
  | .ok => cmpSucceed s
  | other => cmpFail other s

/-- A bus request of CMP.READ answered: `good` says that it succeeded with the count requested (R118). Every failure
after the open closes the port and ends TRANSPORT_UNAVAILABLE (R121, R300). -/
def cmpAnswer (p : Params) (good : Bool) (bytes : List Byte) (s : State) : State :=
  match s.seq.phase with
  | .cmpOpen => if good then issueBus (.readN p.cmpRegCal1 23) .cmpCal1 s else cmpFail .transportUnavailable s
  | .cmpCal1 =>
    if good then issueBus (.readN p.cmpRegCal2 14) .cmpCal2 (cmpStoreCal 0 bytes s)
    else cmpClose .transportUnavailable s
  | .cmpCal2 =>
    if good then issueBus (.readN p.cmpRegCal3 5) .cmpCal3 (cmpStoreCal 23 bytes s)
    else cmpClose .transportUnavailable s
  | .cmpCal3 =>
    if good then issueBus (.write2 p.cmpRegConfig (configByte s.cmp.cfg)) .cmpConfig (cmpPack (cmpStoreCal 37 bytes s))
    else cmpClose .transportUnavailable s
  | .cmpConfig =>
    if good then issueBus (.write2 p.cmpRegCtrlHum (ctrlHumByte s.cmp.cfg)) .cmpCtrlHum s
    else cmpClose .transportUnavailable s
  | .cmpCtrlHum =>
    if good then issueBus (.write2 p.cmpRegCtrlMeas (ctrlMeasByte s.cmp.cfg)) .cmpCtrlMeas s
    else cmpClose .transportUnavailable s
  | .cmpCtrlMeas => if good then cmpPoll p s else cmpClose .transportUnavailable s
  | .cmpStatus => if good then cmpStatus p (bytes.headD 0) s else cmpClose .transportUnavailable s
  | .cmpBurst => if good then cmpCompute bytes s else cmpClose .transportUnavailable s
  | .cmpClose code => cmpEnd code s
  | _ => s

/-- How many bytes the answer to a bus request carries (R118; 0 where no byte is read is DEDUCED, notes/assumptions/5.md). -/
def BusReq.count : BusReq → Nat
  | .openDev _ => 0
  | .read1 _ => 1
  | .readN _ n => n
  | .write2 _ _ => 0
  | .closeDev => 0

/-- A request succeeded: `ok`, and the byte count is the count requested (R118, D53). -/
def busGood (r : BusReq) (ok : Bool) (bytes : List Byte) : Bool := ok && bytes.length == r.count

/-- `bus_open` after a request is answered (R75, R118): the close's `ok` is ignored. -/
def busOpenAfter (r : BusReq) (good before : Bool) : Bool :=
  match r with
  | .openDev _ => good || before
  | .closeDev => false
  | .read1 _ => before
  | .readN _ _ => before
  | .write2 _ _ => before

/-- `BusDone(ok, bytes)` for the outstanding request `r` (R118). -/
def busDone (p : Params) (r : BusReq) (ok : Bool) (bytes : List Byte) (s : State) : State :=
  let good := busGood r ok bytes
  let s1 := { s with ports := { s.ports with pending := .none, busOpen := busOpenAfter r good s.ports.busOpen } }
  match s1.seq.active with
  | .cmp => cmpAnswer p good bytes s1
  | _ => s1

/-- CMP.READ in a Tick event: only the poll delay counts ticks (R288, R306). -/
def cmpTick (p : Params) (s : State) : State :=
  match s.seq.phase with
  | .cmpDelay => delayTick p.cmpPollDelay (cmpPoll p) s
  | _ => s

/-- CMP.READ (R280): a CMD write that carries it. -/
def execCmpRead (s : State) : Host.Outcome State Fault Refusal :=
  .next (accept opcCmpRead cmpStart s)

end Sys2Proof.Machine
end

