-- ==== Sys2Proof/Machine/Line.lean ====
section
/-! DEFINITION. The line primitive unit (40_line.md): the sampled level, the four primitives and LINE.WAIT. -/

namespace Sys2Proof.Machine

open Sys2Proof

/-- `s(t)` of R201: OUT while SFE drives the line, the environment's level `e` otherwise. It is the value of
`ReadLevel()` (R208). While SFE drives, the sample is OUT even if another driver contends (notes/assumptions/7.md). -/
def lineSample (e : Bool) (s : State) : Bool := if s.line.mode then s.line.out else e

/-- Step 2 of a Tick (R201): LINE_CTRL.IN becomes the sample. The two-cycle latency of the synchroniser is abstracted
away (R202), so both flip-flops hold the sample (notes/assumptions/9.md). -/
def latchSample (l : Bool) (s : State) : State :=
  { s with line := { s.line with sync1 := l, sync2 := l } }

/-- `SetDirection(m)` (R206): `true` is output. -/
def setDirection (m : Bool) (s : State) : State := { s with line := { s.line with mode := m } }

/-- `WriteLevel(l)` (R207): `true` is high. -/
def writeLevel (l : Bool) (s : State) : State := { s with line := { s.line with out := l } }

/-- One evaluation of `WaitForLevel` (R209). -/
inductive WaitResult where
  | ok (elapsed : Nat)
  | timeout
  | more
deriving DecidableEq, Repr

/-- `WaitForLevel(level, limit)` at its counter value `k` (R209): a sample at `level` succeeds, at `k = limit` too
(R211); otherwise it times out at `k ≥ limit` and else counts on. -/
def waitEval (level : Bool) (limit k : Nat) (sample : Bool) : WaitResult :=
  if sample = level then .ok k else if limit ≤ k then .timeout else .more

/-- `k <- k + 1` of a wait that counts on (R209). -/
def countOn (s : State) : State := { s with seq := { s.seq with k := s.seq.k + 1 } }

/-! ### LINE.WAIT (R216) -/

/-- LINE.WAIT on acceptance: the operands are latched, and the wait begins at the next Tick with `k = 0` (R209). -/
def lwStart (level : Bool) (timeout : Nat) (s : State) : State :=
  let s' := latchWaitOperands level timeout s
  { s' with seq := { s'.seq with active := .lw, phase := .lwWait, k := 0 } }

/-- LINE.WAIT ends: LINE_ELAPSED gets the elapsed ticks, 0 on a timeout (R54, R216). -/
def lwFinish (elapsed : Nat) (code : ResultCode) (s : State) : State :=
  finish code { s with lineElapsed := BitVec.ofNat 16 elapsed }

/-- LINE.WAIT in a Tick event (R216). -/
def lwTick (sample : Bool) (s : State) : State :=
  match waitEval s.seq.lwLevel s.seq.lwTimeout.toNat s.seq.k sample with
  | .ok elapsed => lwFinish elapsed .ok s
  | .timeout => lwFinish 0 .timeout s
  | .more => countOn s

/-- LINE.WAIT (R216): a CMD write that carries it. -/
def execLineWait (level : Bool) (timeout : Nat) (s : State) : Host.Outcome State Fault Refusal :=
  .next (accept opcLineWait (lwStart level timeout) s)

/-! ### Host access to LINE_CTRL -/

/-- A host write of `v` to LINE_CTRL: MODE and OUT together while BUSY = 0 (R213), ignored while BUSY = 1 (R214). -/
def writeLineCtrl (v : Word) (s : State) : State :=
  if s.status.busy then s
  else { s with line := { s.line with mode := v.getLsbD 0, out := v.getLsbD 1 } }

/-- The word a read of LINE_CTRL returns, `{29'b0, IN, OUT, MODE}` (R215). -/
def lineCtrlWord (s : State) : Word :=
  0#29 ++ BitVec.ofBool s.line.sync2 ++ BitVec.ofBool s.line.out ++ BitVec.ofBool s.line.mode

end Sys2Proof.Machine
end

