-- ==== Sys2Proof/Machine/OneWire.lean ====
section
/-! DEFINITION. The one-wire decoder: OW.READ (41_onewire.md). -/

namespace Sys2Proof.Machine

open Sys2Proof

/-- OW.READ on acceptance (R230). -/
def owStart (s : State) : State :=
  { s with
    seq := { s.seq with active := .ow, phase := .owStart }
    ow := { s.ow with attempt := 0, fr := .ok, fp := .idle, fb := 0 } }

/-- Begin an attempt (R232): the counters, RequestPulse, and MODE and OUT in one event. The Delay counts from 0. -/
def beginAttempt (s : State) : State :=
  let s1 := { s with ow := { s.ow with attempt := s.ow.attempt + 1, bitidx := 0, shreg := 0 } }
  let s2 := gotoAt (.ow .requestPulse) 0 s1
  writeLevel false (setDirection true s2)

/-- Enter `OW_WAIT(P, L)` (R233). The entry sample never ends the wait, because it is the opposite level and
`OW_TIMEOUT ≥ 1` (40_line.md R212, R236): the first evaluation is at the next tick, with `k = 1` (DEDUCED, notes/assumptions/6.md). -/
def enterWait (ph : OwPhase) (s : State) : State := gotoAt (.ow ph) 1 s

/-- The end of RequestPulse (R234): the line is released and ReleaseHigh is entered, in one event. OUT stays 0. -/
def releaseLine (s : State) : State := enterWait .releaseHigh (setDirection false s)

/-- The level a wait phase waits for (R231). -/
def OwPhase.level : OwPhase → Bool
  | .releaseHigh => true
  | .ackLow => false
  | .ackHigh => true
  | .ackLow2 => false
  | .bitHigh => true
  | .bitLow => false
  | .idle => false
  | .requestPulse => false
  | .backoff => false

/-- `stat_word()` (R251): FAIL_BIT, FAIL_PHASE, FAIL_REASON, a reserved 0 and ATTEMPTS. -/
def owStatWord (s : State) : BitVec 18 :=
  s.ow.fb ++ s.ow.fp.code ++ s.ow.fr.code ++ 0#1 ++ s.ow.attempt

/-- The success writes and the end of the command (R245). -/
def owSucceed (s : State) : State :=
  finish .ok { s with owRegs := {
    hum := frameHumidity s.ow.shreg
    temp := u32 (frameTemperature s.ow.shreg)
    raw0 := frameRaw0 s.ow.shreg
    raw1 := frameByte s.ow.shreg 4
    stat := owStatWord s } }

/-- The failure writes and the end of the command (R249, R250). -/
def owExhaust (s : State) : State :=
  finish .retriesExhausted { s with owRegs := { hum := 0, temp := 0, raw0 := 0, raw1 := 0, stat := owStatWord s } }

/-- `fail_attempt(reason)` with `fp` and `fb` as given (R237, R246, R247): the last attempt ends the command (R249), an
earlier one starts the back-off (R248). -/
def failAttempt (p : Params) (reason : ResultCode) (fp : OwPhase) (fb : BitVec 6) (s : State) : State :=
  let s1 := { s with ow := { s.ow with fr := reason, fp := fp, fb := fb } }
  if s1.ow.attempt.toNat = p.owAttempts then owExhaust s1 else gotoAt (.ow .backoff) 0 s1

/-- A wait phase reached its timeout (R237): `fb` holds the bit index only for BitHigh and BitLow. -/
def owTimeout (p : Params) (ph : OwPhase) (s : State) : State :=
  failAttempt p .timeout ph (if ph = .bitHigh ∨ ph = .bitLow then s.ow.bitidx else 0) s

/-- The frame is complete: decode and validate in the same event (R240, R244, R245, R247). -/
def frameDone (p : Params) (s : State) : State :=
  if frameChecksumOk s.ow.shreg then owSucceed s
  else failAttempt p .checksumMismatch .idle 0 s

/-- BitLow succeeded with elapsed count `e` (R239): the bit is 1 if `e ≥ OW_BIT1_MIN`. After bit 39 the frame is
complete (R240). -/
def storeBit (p : Params) (e : Nat) (s : State) : State :=
  let s1 := { s with ow := { s.ow with
    shreg := setFrameBit s.ow.shreg s.ow.bitidx.toNat (decide (p.owBit1Min ≤ e))
    bitidx := s.ow.bitidx + 1 } }
  if s1.ow.bitidx.toNat < 40 then enterWait .bitHigh s1 else frameDone p s1

/-- A wait phase succeeded with elapsed count `e`: what comes next (R230, R235, R238). -/
def owAdvance (p : Params) (ph : OwPhase) (e : Nat) (s : State) : State :=
  match ph with
  | .releaseHigh => enterWait .ackLow s
  | .ackLow => enterWait .ackHigh s
  | .ackHigh => enterWait .ackLow2 s
  | .ackLow2 => enterWait .bitHigh s
  | .bitHigh => enterWait .bitLow s
  | .bitLow => storeBit p e s
  | .idle => s
  | .requestPulse => s
  | .backoff => s

/-- One evaluation of the wait of phase `ph` (R233, R237). -/
def owWaitTick (p : Params) (ph : OwPhase) (sample : Bool) (s : State) : State :=
  match waitEval ph.level p.owTimeout s.seq.k sample with
  | .ok e => owAdvance p ph e s
  | .timeout => owTimeout p ph s
  | .more => countOn s

/-- OW.READ in a Tick event, with the sample of that tick (R230). -/
def owTick (p : Params) (sample : Bool) (s : State) : State :=
  match s.seq.phase with
  | .owStart => beginAttempt s
  | .ow .requestPulse => delayTick p.owTReq releaseLine s
  | .ow .backoff => delayTick p.owBackoff beginAttempt s
  | .ow .releaseHigh => owWaitTick p .releaseHigh sample s
  | .ow .ackLow => owWaitTick p .ackLow sample s
  | .ow .ackHigh => owWaitTick p .ackHigh sample s
  | .ow .ackLow2 => owWaitTick p .ackLow2 sample s
  | .ow .bitHigh => owWaitTick p .bitHigh sample s
  | .ow .bitLow => owWaitTick p .bitLow sample s
  | _ => s

/-- OW.READ (R230): a CMD write that carries it. -/
def execOwRead (s : State) : Host.Outcome State Fault Refusal :=
  .next (accept opcOwRead owStart s)

end Sys2Proof.Machine
end

