-- ==== Sys2Proof/Machine/Serial.lean ====
section
/-! DEFINITION. The framed-serial validator: FS.READ (43_serial.md). -/

namespace Sys2Proof.Machine

open Sys2Proof

/-- FS.READ on acceptance (R340): `SerOpen` is issued in the same event. -/
def fsStart (s : State) : State :=
  let s1 := { s with
    seq := { s.seq with active := .fs }
    fs := { s.fs with nrx := 0 } }
  issueSer .openPort .fsOpen s1

/-- `SerClose()` (20_memory.md R124): takes no event and cannot fail. -/
def serClose (s : State) : State := { s with ports := { s.ports with serOpen := false } }

/-- The end of FS.READ: FS_VALUE is the value on OK and 0 on every failure (R347). -/
def fsFinish (value : BitVec 16) (code : ResultCode) (s : State) : State :=
  finish code { s with fsValue := value }

/-- The answer to `SerOpen` or `SerWrite` (R340, R341, R348). The answered request is no longer pending; `SerRecv` is not held
in `pending` while it runs (DESIGN CHOICE, notes/assumptions/21.md). -/
def fsAnswer (ok : Bool) (n : Nat) (s : State) : State :=
  match s.seq.phase with
  | .fsOpen => if ok then issueSer (.write commandFrame) .fsWrite s else fsFinish 0 .transportUnavailable s
  | .fsWrite =>
    if ok && n == 9 then gotoAt .fsReceive 0 { s with fs := { s.fs with nrx := 0 } }
    else fsFinish 0 .transportUnavailable (serClose s)
  | _ => s

/-- The nine bytes have come: close, then the framing check, then the checksum check (R343, R345, R346). -/
def fsValidate (s : State) : State :=
  let s1 := serClose s
  if !framingOk s.fs.rx then fsFinish 0 .framingMismatch s1
  else if !serialChecksumOk s.fs.rx then fsFinish 0 .checksumMismatch s1
  else fsFinish (serialValue s.fs.rx) .ok s1

/-- A byte in the receive phase (R342). -/
def fsByte (b : Byte) (s : State) : State :=
  let s1 := { s with
    fs := { rx := s.fs.rx.setIfInBounds s.fs.nrx.toNat b, nrx := s.fs.nrx + 1 }
    seq := { s.seq with k := 0 } }
  if s1.fs.nrx = 9 then fsValidate s1 else s1

/-- `SerRx(b)`: discarded outside the receive phase (R125, R342). -/
def serRx (b : Byte) (s : State) : State :=
  match s.seq.phase with
  | .fsReceive => fsByte b s
  | _ => s

/-- `SerRxErr`: ends the receive with RXERR, ignored outside the receive phase (R342, R348). -/
def serRxErr (s : State) : State :=
  match s.seq.phase with
  | .fsReceive => fsFinish 0 .transportUnavailable (serClose s)
  | _ => s

/-- FS.READ in a Tick event (R342): `SER_IBT` ticks without a byte end the receive with TIMEOUT. -/
def fsTick (p : Params) (s : State) : State :=
  match s.seq.phase with
  | .fsReceive => delayTick p.serIbt (fun t => fsFinish 0 .timeout (serClose t)) s
  | _ => s

/-- `SerDone(ok, n)` for the outstanding request `r` (R124): the request is answered, a successful open opens the
port, and FS.READ goes on. -/
def serDone (r : SerReq) (ok : Bool) (n : Nat) (s : State) : State :=
  let s1 := { s with ports := { s.ports with
    pending := .none
    serOpen := match r with
      | .openPort => ok || s.ports.serOpen
      | .write _ => s.ports.serOpen } }
  match s1.seq.active with
  | .fs => fsAnswer ok n s1
  | _ => s1

/-- FS.READ (R340): a CMD write that carries it. -/
def execFsRead (s : State) : Host.Outcome State Fault Refusal :=
  .next (accept opcFsRead fsStart s)

end Sys2Proof.Machine
end

