-- ==== Sys2Proof/Machine/Dispatch.lean ====
section
/-! DEFINITION. The meaning of each command: what a CMD write that carries it does in its own event
(60_exceptions.md R378). One arm per constructor of `Instr`. -/

namespace Sys2Proof.Machine

open Sys2Proof

def exec (i : Instr) (s : State) : Host.Outcome State Fault Refusal :=
  match i with
  | .owRead => Sys2Proof.Machine.execOwRead s
  | .fsRead => Sys2Proof.Machine.execFsRead s
  | .cmpRead => Sys2Proof.Machine.execCmpRead s
  | .lineWait level timeout => Sys2Proof.Machine.execLineWait level timeout s

end Sys2Proof.Machine
end

