-- ==== Sys2Proof/Machine/Hrw.lean ====
section
/-! DEFINITION. The host register window (20_memory.md R101 to R107): its registers and their offsets (10_state.md
R40), the rules of a legal access, and the word each register reads as. -/

namespace Sys2Proof.Machine

open Sys2Proof

/-- The registers of R40. -/
inductive Reg where
  | id
  | cmd
  | status
  | intEn
  | lineCtrl
  | lineElapsed
  | owHum
  | owTemp
  | owRaw0
  | owRaw1
  | owStat
  | fsValue
  | cmpCfg
  | cmpTemp
  | cmpPres
  | cmpHum
  | cmpTfine
  | cmpAdcT
  | cmpAdcP
  | cmpAdcH
  | cmpStat
deriving DecidableEq, Repr

/-- The byte offset of a register (R40). -/
def Reg.offset : Reg → BitVec 12
  | .id => 0x000
  | .cmd => 0x004
  | .status => 0x008
  | .intEn => 0x00C
  | .lineCtrl => 0x010
  | .lineElapsed => 0x014
  | .owHum => 0x020
  | .owTemp => 0x024
  | .owRaw0 => 0x028
  | .owRaw1 => 0x02C
  | .owStat => 0x030
  | .fsValue => 0x040
  | .cmpCfg => 0x050
  | .cmpTemp => 0x054
  | .cmpPres => 0x058
  | .cmpHum => 0x05C
  | .cmpTfine => 0x060
  | .cmpAdcT => 0x064
  | .cmpAdcP => 0x068
  | .cmpAdcH => 0x06C
  | .cmpStat => 0x070

/-- Every register, in the order of R40. -/
def allRegs : List Reg :=
  [.id, .cmd, .status, .intEn, .lineCtrl, .lineElapsed, .owHum, .owTemp, .owRaw0, .owRaw1, .owStat, .fsValue, .cmpCfg,
   .cmpTemp, .cmpPres, .cmpHum, .cmpTfine, .cmpAdcT, .cmpAdcP, .cmpAdcH, .cmpStat]

/-- The register at an offset; none where R40 lists no register (R104). -/
def regAt (off : BitVec 12) : Option Reg := allRegs.find? (fun r => r.offset == off)

/-- The constant of ID (R41), "SFE1". -/
def idConstant : Word := 0x53464531

/-- The word a 32-bit read of a register returns (R40 to R69). CMD reads 0 (R42). -/
def regWord (r : Reg) (s : State) : Word :=
  match r with
  | .id => idConstant
  | .cmd => 0
  | .status => statusWord s
  | .intEn => intEnWord s
  | .lineCtrl => lineCtrlWord s
  | .lineElapsed => s.lineElapsed.setWidth 32
  | .owHum => s.owRegs.hum.setWidth 32
  | .owTemp => s.owRegs.temp
  | .owRaw0 => s.owRegs.raw0
  | .owRaw1 => s.owRegs.raw1.setWidth 32
  | .owStat => s.owRegs.stat.setWidth 32
  | .fsValue => s.fsValue.setWidth 32
  | .cmpCfg => s.cmpCfg.setWidth 32
  | .cmpTemp => s.cmpRegs.temp
  | .cmpPres => s.cmpRegs.pres
  | .cmpHum => s.cmpRegs.hum
  | .cmpTfine => s.cmpRegs.tfine
  | .cmpAdcT => s.cmpRegs.adcT.setWidth 32
  | .cmpAdcP => s.cmpRegs.adcP.setWidth 32
  | .cmpAdcH => s.cmpRegs.adcH.setWidth 32
  | .cmpStat => s.cmpRegs.stat.setWidth 32

/-- The word a legal read at an offset returns: 0 where no register is (R104). -/
def hrwWord (off : BitVec 12) (s : State) : Word :=
  match regAt off with
  | some r => regWord r s
  | none => 0

/-- Which accesses are illegal (R102, R103): narrower than 32 bits, or at an offset that is not a multiple of 4. -/
def accessError (width : AccessWidth) (off : BitVec 12) : Option AccessError :=
  match width with
  | .byte => some .narrow
  | .half => some .narrow
  | .word => if off.toNat % 4 = 0 then none else some .misaligned

/-- A host write of `v` to CMP_CFG (R61): the reserved bits stay 0. Accepted at any time. -/
def writeCmpCfg (v : Word) (s : State) : State := { s with cmpCfg := v.setWidth 15 &&& cfgMask }

/-- The byte of a register word on byte lane `i` of a byte-addressed host bus (R105): little-endian. -/
def byteLane (v : Word) (i : Fin 4) : Byte := v.extractLsb' (8 * i.val) 8

/-- The host address of an offset of the window (R101). No rule of SFE depends on it. -/
def hostAddress (off : BitVec 12) : Nat := Config.sfeBase + off.toNat

end Sys2Proof.Machine
end

