-- ==== Sys2Proof/Machine/Events.lean ====
section
/-! DEFINITION. What each event of 00_scope.md R9 does: host accesses, ticks, port answers, serial bytes and Reset. -/

namespace Sys2Proof.Machine

open Sys2Proof

/-- A CMD write of `v` (10_state.md R42, R378): the command it decodes to is offered, or an illegal value rejected. -/
def writeCmd (v : Word) (s : State) : Host.Outcome State Fault Refusal :=
  match decode v with
  | .command i => exec i s
  | .illegal _ => .next (rejectCommand v s)

/-- A 32-bit write to a register (20_memory.md R107): a write to a read-only register is ignored. -/
def writeReg (r : Reg) (v : Word) (s : State) : Host.Outcome State Fault Refusal :=
  match r with
  | .cmd => writeCmd v s
  | .status => .next (writeStatus v s)
  | .intEn => .next (writeIntEn v s)
  | .lineCtrl => .next (writeLineCtrl v s)
  | .cmpCfg => .next (writeCmpCfg v s)
  | .id => .next s
  | .lineElapsed => .next s
  | .owHum => .next s
  | .owTemp => .next s
  | .owRaw0 => .next s
  | .owRaw1 => .next s
  | .owStat => .next s
  | .fsValue => .next s
  | .cmpTemp => .next s
  | .cmpPres => .next s
  | .cmpHum => .next s
  | .cmpTfine => .next s
  | .cmpAdcT => .next s
  | .cmpAdcP => .next s
  | .cmpAdcH => .next s
  | .cmpStat => .next s

/-- `HostWrite(off, v)`: an illegal access ends in a fault of the access and changes no SFE state (R103, R380;
DEDUCED, notes/assumptions/3.md); a write at an offset without a register is ignored (R104). -/
def hostWrite (width : AccessWidth) (off : BitVec 12) (v : Word) (s : State) : Host.Outcome State Fault Refusal :=
  match accessError width off with
  | some e => .next { s with reply := .fault e }
  | none =>
    match regAt off with
    | some r => writeReg r v { s with reply := .done }
    | none => .next { s with reply := .done }

/-- `HostRead(off)`: returns 32 bits and changes no SFE state (R106); an illegal access returns no data (R103). -/
def hostRead (width : AccessWidth) (off : BitVec 12) (s : State) : State :=
  match accessError width off with
  | some e => { s with reply := .fault e }
  | none => { s with reply := .data (hrwWord off s) }

/-- `Tick(e)` in the three steps of 40_line.md R201: the sample, LINE_CTRL.IN, then the sequencer. -/
def tick (p : Params) (e : Bool) (s : State) : State :=
  let l := lineSample e s
  let s1 := latchSample l s
  match s1.seq.active with
  | .none => s1
  | .ow => owTick p l s1
  | .fs => fsTick p s1
  | .cmp => cmpTick p s1
  | .lw => lwTick l s1

/-- `Reset` (70_reset_and_hazards.md R410 to R412): every element takes its reset value, the synchroniser draws
(R411 "unspecified"), and the events to come stay (DESIGN CHOICE, notes/assumptions/18.md). -/
def resetEvent (s : State) : State :=
  { State.reset with
    line := { State.reset.line with sync1 := Config.freeBit s.draws, sync2 := Config.freeBit (s.draws + 1) }
    inbox := s.inbox
    draws := s.draws + 2 }

/-- One event (R9). An answer to a request that is not outstanding is not enabled. -/
def handleEvent (p : Params) (e : Event) (s : State) : Host.Outcome State Fault Refusal :=
  match e with
  | .hostWrite width off v => hostWrite width off v s
  | .hostRead width off => .next (hostRead width off s)
  | .tick l => .next (tick p l s)
  | .busDone ok bytes =>
    match s.ports.pending with
    | .bus r => .next (busDone p r ok bytes s)
    | _ => .fault .eventNotEnabled
  | .serDone ok n =>
    match s.ports.pending with
    | .ser r => .next (serDone r ok n s)
    | _ => .fault .eventNotEnabled
  | .serRx b => .next (serRx b s)
  | .serRxErr => .next (serRxErr s)
  | .reset => .next (resetEvent s)

/-- The next event, and the state without it: the first event of `inbox`, or a free one where none is there (R8). -/
def nextEvent (s : State) : Event × State :=
  match s.inbox with
  | e :: rest => (e, { s with inbox := rest })
  | [] => (Config.freeEvent s.draws, { s with draws := s.draws + 1 })

end Sys2Proof.Machine
end

