-- ==== Sys2Proof/Machine/Step.lean ====
section
/-! DEFINITION. One step of the machine: the next event, taken whole (00_scope.md R9). -/

namespace Sys2Proof.Machine

open Sys2Proof

/-- One step under the parameters `p` (R7): nothing happens between events, and no two are simultaneous (R9). -/
def stepWith (p : Params) (s : State) : Host.Outcome State Fault Refusal :=
  handleEvent p (nextEvent s).1 (nextEvent s).2

/-- One step of this spec's SFE. -/
def step (s : State) : Host.Outcome State Fault Refusal := stepWith Config.params s

/-- The next event is the host's write of the word to CMD: SFE has no other way to be given a command (R3, R150). -/
def State.withFetchWord (s : State) (nbits w : Nat) : State :=
  { s with inbox := .hostWrite .word Reg.cmd.offset (tableWord nbits w) :: s.inbox }

end Sys2Proof.Machine
end

