-- ==== Sys2Proof/Machine/Gpio.lean ====
section
/-! DEFINITION. The GPIO register window, the integration view of 20_memory.md R127 to R132. SFE never issues an access
to it, so it is no part of `State`: a platform that drives the line through a GPIO bank holds a `Gpw`, and these are the
operations of the source's line driver on it, each made of loads and stores of the window's words
(DESIGN CHOICE, notes/assumptions/13.md). -/

namespace Sys2Proof.Machine

open Sys2Proof

/-- What stands behind the window's registers. The set and clear registers are self-clearing (R130), so they hold nothing
themselves: `latch` is what they act on (DESIGN CHOICE, notes/assumptions/13.md). -/
structure Gpw where
  /-- The window initialisation succeeded (R132). -/
  ready : Bool
  /-- The function-select words GPFSEL0 to GPFSEL5. -/
  fsel : Vector Word 6
  /-- What the set and clear registers act on, one bit a pin. -/
  latch : Word
  /-- The level register, set by the pins' electrical levels: no operation here changes it (DESIGN CHOICE,
  notes/assumptions/23.md). -/
  lev : Word
  /-- The model's own: how many free values loads of the set and clear registers have drawn. -/
  draws : Nat
deriving DecidableEq, Repr

/-! ### The words of the window -/

/-- The window is one page (R131). An offset in it is a `BitVec 12`, so no access is outside it. -/
def gpwPageBytes : Nat := 4096

/-- The registers R131 lists. -/
inductive GpwReg where
  | fsel (i : Fin 6)
  | set
  | clr
  | lev
deriving DecidableEq, Repr

/-- Byte offsets of the words on the BCM2835 block (R131). -/
def gpfselOffset (i : Fin 6) : BitVec 12 := BitVec.ofNat 12 (4 * i.val)
def gpsetOffset : BitVec 12 := 0x01C
def gpclrOffset : BitVec 12 := 0x028
def gplevOffset : BitVec 12 := 0x034

/-- The offset of a register (R131). -/
def GpwReg.offset : GpwReg → BitVec 12
  | .fsel i => gpfselOffset i
  | .set => gpsetOffset
  | .clr => gpclrOffset
  | .lev => gplevOffset

/-- Every register R131 lists. -/
def gpwRegs : List GpwReg :=
  [.fsel 0, .fsel 1, .fsel 2, .fsel 3, .fsel 4, .fsel 5, .set, .clr, .lev]

/-- The register at an offset of the page; none where R131 lists none. -/
def gpwRegAt (off : BitVec 12) : Option GpwReg := gpwRegs.find? (fun r => r.offset == off)

/-- A 32-bit load from the window. What a set or clear register reads as is a free value: "reading them back tells nothing"
(R130; DESIGN CHOICE, notes/assumptions/22.md). -/
def gpwLoad (off : BitVec 12) (g : Gpw) : Host.Outcome (Word × Gpw) Fault Refusal :=
  if g.ready then
    match gpwRegAt off with
    | some (.fsel i) => .next (g.fsel[i], g)
    | some .set => .next (Config.gpwReadback g.draws, { g with draws := g.draws + 1 })
    | some .clr => .next (Config.gpwReadback g.draws, { g with draws := g.draws + 1 })
    | some .lev => .next (g.lev, g)
    | none => .refused .gpwAccessNotGiven
  else .refused .pinNotInitialised

/-- A 32-bit store to the window (R128, R130): the set and clear registers act on the bits written as 1, and bits
written as 0 have no effect. No store changes what the level register reads (DESIGN CHOICE, notes/assumptions/23.md). -/
def gpwStore (off : BitVec 12) (w : Word) (g : Gpw) : Host.Outcome Gpw Fault Refusal :=
  if g.ready then
    match gpwRegAt off with
    | some (.fsel i) => .next { g with fsel := g.fsel.set i w }
    | some .set => .next { g with latch := g.latch ||| w }
    | some .clr => .next { g with latch := g.latch &&& ~~~w }
    | some .lev => .refused .gpwAccessNotGiven
    | none => .refused .gpwAccessNotGiven
  else .refused .pinNotInitialised

/-- The window's initialisation; a second one is a no-op success (R132). -/
def gpwInit (g : Gpw) : Host.Outcome Gpw Fault Refusal := .next { g with ready := true }

/-! ### The pin operations -/

/-- A pin with a function-select field: ten a word, six words (R127, R131). -/
abbrev Pin := Fin 60

/-- Index of the function-select word of a pin (R127). -/
def fselIndex (p : Pin) : Fin 6 := ⟨p.val / 10, by omega⟩

/-- Lowest bit of a pin's field in that word (R127). -/
def fselShift (p : Pin) : Nat := (p.val % 10) * 3

/-- The function-select code (R128): 0b001 for output, 0b000 for input. -/
def fselCode (output : Bool) : Word := if output then 0b001 else 0b000

/-- A direction change between its read and its write (R128): the pin, the direction and the word that was read. -/
structure DirectionWrite where
  pin : Pin
  output : Bool
  seen : Word
deriving DecidableEq, Repr

/-- The word a direction change writes: the word it read with the pin's field replaced (R128, second line). -/
def directionWord (d : DirectionWrite) : Word :=
  (d.seen &&& ~~~(0b111#32 <<< fselShift d.pin)) ||| (fselCode d.output <<< fselShift d.pin)

/-- The read of `setDirection` (R128, first line). -/
def gpwBeginDirection (p : Pin) (output : Bool) (g : Gpw) : Host.Outcome DirectionWrite Fault Refusal :=
  match gpwLoad (gpfselOffset (fselIndex p)) g with
  | .next r => .next { pin := p, output := output, seen := r.1 }
  | .fault f => .fault f
  | .refused r => .refused r

/-- The write of `setDirection` (R128, third line). It is not atomic with the read: `g` is the window as it is by then, and
what another writer put into the word since the read is lost. -/
def gpwEndDirection (d : DirectionWrite) (g : Gpw) : Host.Outcome Gpw Fault Refusal :=
  gpwStore (gpfselOffset (fselIndex d.pin)) (directionWord d) g

/-- `setDirection(p, m)` with no other writer between its read and its write (R128). -/
def gpwSetDirection (p : Pin) (output : Bool) (g : Gpw) : Host.Outcome Gpw Fault Refusal :=
  match gpwBeginDirection p output g with
  | .next d => gpwEndDirection d g
  | .fault f => .fault f
  | .refused r => .refused r

/-- `writeLevel(p, l)` (R130): the word `1 << (p mod 32)` goes to the set or to the clear register. -/
def gpwWriteLevel (p : Pin) (high : Bool) (g : Gpw) : Host.Outcome Gpw Fault Refusal :=
  gpwStore (if high then gpsetOffset else gpclrOffset) (1#32 <<< (p.val % 32)) g

/-- `readLevel(p)` (R129): bit `p mod 32` of the one level register. -/
def gpwReadLevel (p : Pin) (g : Gpw) : Host.Outcome Bool Fault Refusal :=
  match gpwLoad gplevOffset g with
  | .next r => .next (r.1.getLsbD (p.val % 32))
  | .fault f => .fault f
  | .refused r => .refused r

/-- The pin SFE's line is wired to, `OW_PIN` (00_scope.md R7). -/
def owPin : Pin := ⟨Config.owPin.val, by omega⟩

/-- Drive the wired pin as LINE_CTRL says: OUT first, then the direction (40_line.md R206, R207 name both writes). -/
def gpwFollow (s : State) (g : Gpw) : Host.Outcome Gpw Fault Refusal :=
  match gpwWriteLevel owPin s.line.out g with
  | .next g' => gpwSetDirection owPin s.line.mode g'
  | .fault f => .fault f
  | .refused r => .refused r

end Sys2Proof.Machine
end

