-- ==== Sys2Proof/Machine/HostProgram.lean ====
section
/-! DEFINITION. The host-program notation of 30_encoding.md R163 to R165: its three operations and the expansion of its
pseudo-instructions. It is the spec's notation for sequences of host accesses; SFE itself runs no program (R3). -/

namespace Sys2Proof.Machine

open Sys2Proof

/-- `WR`, `RD`, `POLL` (R163). -/
inductive HostOp where
  | wr (off : BitVec 12) (v : Word)
  | rd (off : BitVec 12)
  | poll (off : BitVec 12) (mask value : Word)
deriving DecidableEq, Repr

/-- The host access one line issues; POLL repeats its read until `pollDone` (R163). -/
def HostOp.access : HostOp → Event
  | .wr off v => .hostWrite .word off v
  | .rd off => .hostRead .word off
  | .poll off _ _ => .hostRead .word off

/-- A POLL ends with this read (R163). -/
def pollDone (mask value got : Word) : Bool := got &&& mask == value

/-- The pseudo-instructions (R165). -/
inductive Pseudo where
  | issue (i : Instr)
  | waitDone
  | clrDone
  | clrOvr
  | run (i : Instr)
  | lineDrive (l : Bool)
  | lineRelease
deriving DecidableEq, Repr

/-- The expansion of a pseudo-instruction (R165). A mnemonic stands for the CMD value it encodes (R164). -/
def Pseudo.expand : Pseudo → List HostOp
  | .issue i => [.wr Reg.cmd.offset (encode i)]
  | .waitDone => [.poll Reg.status.offset 0x2 0x2]
  | .clrDone => [.wr Reg.status.offset 0x2]
  | .clrOvr => [.wr Reg.status.offset 0x4]
  | .run i => [.wr Reg.cmd.offset (encode i), .poll Reg.status.offset 0x2 0x2, .wr Reg.status.offset 0x2]
  | .lineDrive l => [.wr Reg.lineCtrl.offset (if l then 0x3 else 0x1)]
  | .lineRelease => [.wr Reg.lineCtrl.offset 0x2]

end Sys2Proof.Machine
end

