-- ==== Sys2Proof/Safety.lean ====
section
/-! DEFINITION. What claims about runs are stated in: a run over a list of events, and the invariant of every
reachable state, clause by clause. -/

namespace Sys2Proof.Machine

open Sys2Proof

/-- Take a list of events one at a time (R9), stopping at the first fault or refusal. -/
def runEvents (p : Params) : List Event → State → Host.Outcome State Fault Refusal
  | [], s => .next s
  | e :: rest, s =>
    match handleEvent p e s with
    | .next t => runEvents p rest t
    | .fault f => .fault f
    | .refused r => .refused r

/-- A host's 32-bit write of `v` to a register, and its 32-bit read of one (R163). -/
def WR (r : Reg) (v : Word) : Event := .hostWrite .word r.offset v
def RD (r : Reg) : Event := .hostRead .word r.offset

/-- One Tick event per level of a line trace. -/
def ticks (levels : List Bool) : List Event := levels.map .tick

/-- The line trace of one attempt as a sensor makes it (R235, R238, R257), from the sample after the release on: `h0`
samples low until the pull-up shows, `h1` high, `l` low, `h2` high, then for each frame bit `lo i` low and `hi i` high,
and the low sample that ends the last bit. -/
def attemptTrace (h0 h1 l h2 : Nat) (lo hi : Nat → Nat) : List Bool :=
  List.replicate h0 false ++ List.replicate h1 true ++ List.replicate l false ++ List.replicate h2 true ++
    (List.range 40).flatMap (fun i => List.replicate (lo i) false ++ List.replicate (hi i) true) ++ [false]

/-- What a successful OW.READ leaves of the frame and the line (R242 to R245, R252), OW_STAT apart. -/
def owDecoded (frame : BitVec 40) (t : State) : Prop :=
  (regWord .owHum t).toNat = (frameByte frame 0).toNat * 256 + (frameByte frame 1).toNat ∧
  (regWord .owTemp t).toInt = frameTemperature frame ∧
  regWord .owRaw0 t = frameByte frame 0 ++ frameByte frame 1 ++ frameByte frame 2 ++ frameByte frame 3 ∧
  regWord .owRaw1 t = (frameByte frame 4).setWidth 32 ∧
  t.line.mode = false ∧ t.line.out = false

/-- The nine bytes of a serial response, each after its own gap of Ticks (R342). -/
def spacedResponse (rx : Vector Byte 9) (gaps : Fin 9 → List Bool) : List Event :=
  (List.finRange 9).flatMap (fun i => ticks (gaps i) ++ [Event.serRx rx[i]])

/-- The answers of a bus sensor to the first seven requests of a CMP.READ (R282, R283, R287): the open, the three
calibration ranges, the three control writes. -/
def setupAnswers (cal1 cal2 cal3 : List Byte) : List Event :=
  [.busDone true [], .busDone true cal1, .busDone true cal2, .busDone true cal3,
   .busDone true [], .busDone true [], .busDone true []]

/-- Status reads that answer "not ready", each followed by the poll delay's ticks (R288). -/
def notReadyPolls (p : Params) (answers : List Byte) : List Event :=
  answers.flatMap (fun b => Event.busDone true [b] :: List.replicate p.cmpPollDelay (Event.tick true))

/-- The calibration image made of its three ranges (R283). -/
def imageOf (cal1 cal2 cal3 : List Byte) : Vector Byte 42 :=
  storeBytes (storeBytes (storeBytes (Vector.replicate 42 0) 0 cal1) 23 cal2) 37 cal3

/-- The burst as eight bytes (R289). -/
def burstOf (bytes : List Byte) : Vector Byte 8 := storeBytes (Vector.replicate 8 0) 0 bytes

/-- The command a control point belongs to (R70). -/
def Phase.owner : Phase → Active
  | .idle => .none
  | .owStart => .ow
  | .ow _ => .ow
  | .lwWait => .lw
  | .fsOpen => .fs
  | .fsWrite => .fs
  | .fsReceive => .fs
  | .cmpOpen => .cmp
  | .cmpCal1 => .cmp
  | .cmpCal2 => .cmp
  | .cmpCal3 => .cmp
  | .cmpConfig => .cmp
  | .cmpCtrlHum => .cmp
  | .cmpCtrlMeas => .cmp
  | .cmpStatus => .cmp
  | .cmpDelay => .cmp
  | .cmpBurst => .cmp
  | .cmpClose _ => .cmp

/-- The request outstanding at a control point, with its operands (R75, R118, R124, R280, R340). That none is outstanding at
`fsReceive` is the model's choice (DESIGN CHOICE, notes/assumptions/21.md). -/
def Phase.request (p : Params) (cfg : BitVec 15) : Phase → Pending
  | .idle => .none
  | .owStart => .none
  | .ow _ => .none
  | .lwWait => .none
  | .fsOpen => .ser .openPort
  | .fsWrite => .ser (.write commandFrame)
  | .fsReceive => .none
  | .cmpOpen => .bus (.openDev Config.cmpSlaveAddr)
  | .cmpCal1 => .bus (.readN p.cmpRegCal1 23)
  | .cmpCal2 => .bus (.readN p.cmpRegCal2 14)
  | .cmpCal3 => .bus (.readN p.cmpRegCal3 5)
  | .cmpConfig => .bus (.write2 p.cmpRegConfig (configByte cfg))
  | .cmpCtrlHum => .bus (.write2 p.cmpRegCtrlHum (ctrlHumByte cfg))
  | .cmpCtrlMeas => .bus (.write2 p.cmpRegCtrlMeas (ctrlMeasByte cfg))
  | .cmpStatus => .bus (.read1 p.cmpRegStatus)
  | .cmpDelay => .none
  | .cmpBurst => .bus (.readN p.cmpRegData 8)
  | .cmpClose _ => .bus .closeDev

/-- The bus port is open at a control point (R75, R301). -/
def Phase.holdsBus : Phase → Bool
  | .cmpCal1 => true
  | .cmpCal2 => true
  | .cmpCal3 => true
  | .cmpConfig => true
  | .cmpCtrlHum => true
  | .cmpCtrlMeas => true
  | .cmpStatus => true
  | .cmpDelay => true
  | .cmpBurst => true
  | .cmpClose _ => true
  | .idle => false
  | .owStart => false
  | .ow _ => false
  | .lwWait => false
  | .fsOpen => false
  | .fsWrite => false
  | .fsReceive => false
  | .cmpOpen => false

/-- The serial port is open at a control point (R75, R350). -/
def Phase.holdsSer (ph : Phase) : Bool := decide (ph = .fsWrite ∨ ph = .fsReceive)

/-- The six wait phases of an attempt (R231, R237). -/
def OwPhase.isWait (p : OwPhase) : Bool := decide (p ≠ .idle ∧ p ≠ .requestPulse ∧ p ≠ .backoff)

/-- Which command may end with which code (60_exceptions.md R371). -/
def mayEndWith (a : Active) (c : ResultCode) : Bool :=
  match a with
  | .none => false
  | .ow => decide (c = .ok ∨ c = .retriesExhausted)
  | .fs => decide (c = .ok ∨ c = .timeout ∨ c = .checksumMismatch ∨ c = .framingMismatch ∨ c = .transportUnavailable)
  | .cmp => decide (c = .ok ∨ c = .dataNotReady ∨ c = .transportUnavailable ∨ c = .arithFault)
  | .lw => decide (c = .ok ∨ c = .timeout)

/-- What the control point says about the counters and the line, for each phase (R70, R71, R73, R74, R252). The control point
`owStart`, the value of `k` before a LINE.WAIT's entry tick and `polls` counting at issue are the model's choices
(notes/assumptions/20.md, 10.md, 11.md). -/
def PhaseInv (p : Params) (s : State) : Prop :=
  match s.seq.phase with
  | .idle => True
  | .owStart => s.ow.attempt = 0
  | .ow ph =>
    ph ≠ .idle ∧ 1 ≤ s.ow.attempt.toNat ∧ s.ow.attempt.toNat ≤ p.owAttempts ∧ s.line.out = false ∧
    s.line.mode = decide (ph = .requestPulse) ∧
    (ph = .requestPulse → s.seq.k < p.owTReq) ∧
    (ph = .backoff → s.seq.k < p.owBackoff ∧ s.ow.attempt.toNat < p.owAttempts) ∧
    (ph.isWait → 1 ≤ s.seq.k ∧ s.seq.k ≤ p.owTimeout) ∧
    (ph ≠ .backoff → s.ow.bitidx.toNat < 40)
  | .lwWait => s.seq.k ≤ s.seq.lwTimeout.toNat
  | .fsOpen => True
  | .fsWrite => True
  | .fsReceive => s.seq.k < p.serIbt ∧ s.fs.nrx.toNat < 9
  | .cmpOpen => s.cmp.polls = 0 ∧ s.cmp.pbr = false
  | .cmpCal1 => s.cmp.polls = 0 ∧ s.cmp.pbr = false
  | .cmpCal2 => s.cmp.polls = 0 ∧ s.cmp.pbr = false
  | .cmpCal3 => s.cmp.polls = 0 ∧ s.cmp.pbr = false
  | .cmpConfig => s.cmp.polls = 0 ∧ s.cmp.pbr = false
  | .cmpCtrlHum => s.cmp.polls = 0 ∧ s.cmp.pbr = false
  | .cmpCtrlMeas => s.cmp.polls = 0 ∧ s.cmp.pbr = false
  | .cmpStatus => s.cmp.pbr = false ∧ 1 ≤ s.cmp.polls.toNat ∧ s.cmp.polls.toNat ≤ p.cmpPollMax
  | .cmpDelay => s.cmp.pbr = false ∧ s.seq.k < p.cmpPollDelay ∧ 1 ≤ s.cmp.polls.toNat ∧ s.cmp.polls.toNat < p.cmpPollMax
  | .cmpBurst => s.cmp.pbr = false ∧ 1 ≤ s.cmp.polls.toNat ∧ s.cmp.polls.toNat ≤ p.cmpPollMax
  | .cmpClose code =>
    mayEndWith .cmp code ∧ (code ≠ .ok → s.cmp.pbr = false) ∧ s.cmp.polls.toNat ≤ p.cmpPollMax ∧
    (code = .ok → (compPres s.cmp.coef (zext s.cmp.adcP) (sext s.cmp.tFine)).isSome)

/-- The failure record of the one-wire engine (R59, R71): reason, phase and bit index at their legal values. -/
def FailureRecordInv (s : State) : Prop :=
  (s.ow.fr = .ok ∨ s.ow.fr = .timeout ∨ s.ow.fr = .checksumMismatch) ∧
  (s.ow.fp = .idle ∨ s.ow.fp.isWait) ∧
  s.ow.fb.toNat < 40

/-- The legal contents of the registers (R61, R62, R64, R69 and R59's reserved bit). -/
def RegsInv (p : Params) (s : State) : Prop :=
  s.cmpCfg &&& ~~~cfgMask = 0 ∧
  (∃ t : BitVec 16, s.cmpRegs.temp = t.signExtend 32) ∧
  s.cmpRegs.hum.toNat ≤ 100000 ∧
  (s.cmpRegs.stat.extractLsb' 0 4).toNat ≤ p.cmpPollMax ∧
  s.cmpRegs.stat.extractLsb' 4 4 = 0 ∧
  (s.owRegs.stat.extractLsb' 0 3).toNat ≤ p.owAttempts ∧
  s.owRegs.stat.getLsbD 3 = false

/-- The invariant of every reachable state. It rests in part on the model's choices of notes/assumptions/10.md, 11.md, 20.md
and 21.md, at the clauses that name them. -/
structure Inv (p : Params) (s : State) : Prop where
  /-- BUSY says that a command is active (R43, R70). -/
  busy_active : s.status.busy = decide (s.seq.active ≠ .none)
  /-- DONE and BUSY are never both 1, and RESULT is 0 while BUSY (R44, R46, R372). -/
  done_busy : s.status.busy = true → s.status.done = false ∧ s.status.result = .ok
  /-- The control point belongs to the active command (R70). -/
  phase_owner : s.seq.active = s.seq.phase.owner
  /-- Exactly the control point's request is outstanding (R75, R122); in the serial receive none is, the model's choice
  (notes/assumptions/21.md). -/
  request : s.ports.pending = s.seq.phase.request p s.cmp.cfg
  /-- The ports are open exactly while their command uses them (R301, R350). -/
  bus_port : s.ports.busOpen = s.seq.phase.holdsBus
  ser_port : s.ports.serOpen = s.seq.phase.holdsSer
  /-- Counters, line and code of the control point. -/
  phase : PhaseInv p s
  failure : FailureRecordInv s
  regs : RegsInv p s

end Sys2Proof.Machine
end

