-- ==== Sys2Proof/Certificates/Slice0/Obligations.lean ====
section
/-! DEFINITION. The statements about SFE, from the numbered rules of spec/. Each docstring names its rule. -/

open Sys2Proof Sys2Proof.Machine

/-! ### Encoding -/

/-- 30_encoding.md R153: the decode function, over all 2^32 values. -/
def Obligations.DecodeMatchesEveryRow : Prop :=
  ∀ v : Word,
    (decode v = .command .owRead ↔ v.toNat = 1) ∧
    (decode v = .command .fsRead ↔ v.toNat = 2) ∧
    (decode v = .command .cmpRead ↔ v.toNat = 3) ∧
    (∀ l t, decode v = .command (.lineWait l t) ↔
      v &&& 0x0000FEFF = 4 ∧ l = v.getLsbD 8 ∧ t = v.toNat / 65536) ∧
    ((∃ why, decode v = .illegal why) ↔
      v.toNat ≠ 1 ∧ v.toNat ≠ 2 ∧ v.toNat ≠ 3 ∧ v &&& 0x0000FEFF ≠ 4)

/-- Decode and encode agree on every well-formed command (R151, R152, R164). -/
def Obligations.DecodeOfEncode : Prop :=
  ∀ i : Instr, i.wf = true → decode (encode i) = .command i

/-- Every legal CMD value is the encoding of the well-formed command it decodes to: no bit is dropped (R152, R153). -/
def Obligations.EncodeOfDecode : Prop :=
  ∀ (v : Word) (i : Instr), decode v = .command i → i.wf = true ∧ encode i = v

/-- Words written out from R151 and R152, legal and illegal (95_test_vectors.md E1 to E12), decode as the spec says. -/
def Obligations.SampleWordsDecode : Prop :=
  decode 0x00000001 = .command .owRead ∧
  decode 0x00000002 = .command .fsRead ∧
  decode 0x00000003 = .command .cmpRead ∧
  decode 0x00640104 = .command (.lineWait true 100) ∧
  decode 0xFFFF0104 = .command (.lineWait true 65535) ∧
  decode 0x00000000 = .illegal (.unassignedOpcode 0x00) ∧
  decode 0x00000005 = .illegal (.unassignedOpcode 0x05) ∧
  decode 0x00000101 = .illegal (.reservedBits 0x01) ∧
  decode 0x80000003 = .illegal (.reservedBits 0x03) ∧
  decode 0x00008004 = .illegal (.reservedBits 0x04)

/-! ### A step, acceptance and the end of a command -/

/-- A step whose next event is the host's write of a legal value to CMD is `exec` of the command it decodes to; the step
has taken the event and noted that the host access was performed (R9, R42, R110). How the next event stands in `inbox` is the
model's choice, notes/assumptions/2.md. -/
def Obligations.StepRunsDecodedCommand : Prop :=
  ∀ (s : State) (v : Word) (i : Instr) (rest : List Event),
    s.inbox = WR .cmd v :: rest → decode v = .command i →
    step s = exec i { s with inbox := rest, reply := .done }

/-- Running a list of events is stepping the machine through an inbox that begins with them: events to come influence
nothing before they happen (R9). The inbox is the model's choice, notes/assumptions/2.md. -/
def Obligations.RunOfInboxIsRunOfEvents : Prop :=
  ∀ (evs rest : List Event) (s t : State),
    runEvents Config.params evs { s with inbox := rest } = .next t →
    Host.Core.run core evs.length { s with inbox := evs ++ rest } = .next t

/-- R378: what a CMD write does, in each of its three cases. -/
def Obligations.CmdWriteIsAcceptedOrDropped : Prop :=
  ∀ (p : Params) (s : State) (v : Word),
    (s.status.busy = true →
      handleEvent p (WR .cmd v) s = .next { s with reply := .done, status := { s.status with overrun := true } }) ∧
    (s.status.busy = false → ∀ why, decode v = .illegal why →
      handleEvent p (WR .cmd v) s = .next { s with reply := .done, status := { s.status with
        lastOp := v.extractLsb' 0 8, result := .badCommand, done := true } }) ∧
    (s.status.busy = false → ∀ i, decode v = .command i →
      ∃ t, handleEvent p (WR .cmd v) s = .next t ∧ t.status = { s.status with
        lastOp := v.extractLsb' 0 8, result := .ok, done := false, busy := true })

/-- OW.READ offered while BUSY = 0 is accepted (R230 "on acceptance", R378): the exact next state. Its control point `owStart`
is the model's choice, the part of the phase RequestPulse before tick 0, notes/assumptions/20.md. -/
def Obligations.OwReadIsAccepted : Prop :=
  ∀ s : State, s.status.busy = false →
    exec .owRead s = .next { s with
      status := { s.status with lastOp := 0x01, done := false, result := .ok, busy := true }
      seq := { s.seq with active := .ow, phase := .owStart }
      ow := { s.ow with attempt := 0, fr := .ok, fp := .idle, fb := 0 } }

/-- FS.READ offered while BUSY = 0 is accepted, and issues SerOpen in the same event (R340, R378). -/
def Obligations.FsReadIsAccepted : Prop :=
  ∀ s : State, s.status.busy = false →
    exec .fsRead s = .next { s with
      status := { s.status with lastOp := 0x02, done := false, result := .ok, busy := true }
      seq := { s.seq with active := .fs, phase := .fsOpen }
      fs := { s.fs with nrx := 0 }
      ports := { s.ports with pending := .ser .openPort } }

/-- CMP.READ offered while BUSY = 0 is accepted, latches CMP_CFG and issues BusOpen in the same event (R280, R281, R378). -/
def Obligations.CmpReadIsAccepted : Prop :=
  ∀ s : State, s.status.busy = false →
    exec .cmpRead s = .next { s with
      status := { s.status with lastOp := 0x03, done := false, result := .ok, busy := true }
      seq := { s.seq with active := .cmp, phase := .cmpOpen }
      cmp := { s.cmp with cfg := s.cmpCfg, polls := 0, pbr := false }
      ports := { s.ports with pending := .bus (.openDev Config.cmpSlaveAddr) } }

/-- LINE.WAIT offered while BUSY = 0 is accepted and latches its operands (R156, R216, R378). That `k` is 0 from acceptance on, and
not only from the entry tick of R209, is the model's choice, notes/assumptions/10.md. -/
def Obligations.LineWaitIsAccepted : Prop :=
  ∀ (s : State) (level : Bool) (timeout : Nat), s.status.busy = false →
    ∃ t, exec (.lineWait level timeout) s = .next t ∧
      t = { s with
        status := { s.status with lastOp := 0x04, done := false, result := .ok, busy := true }
        seq := { active := .lw, phase := .lwWait, k := 0, lwLevel := level, lwTimeout := BitVec.ofNat 16 timeout } } ∧
      (Instr.wf (.lineWait level timeout) = true → t.seq.lwTimeout.toNat = timeout)

/-- The frame of every command's own event: every register but STATUS reads as before, and the line, the other units'
engines and the port handles are as before (R111, R373). -/
def Obligations.CommandEventFrame : Prop :=
  ∀ (i : Instr) (s t : State), exec i s = .next t →
    (∀ r : Reg, r ≠ .status → regWord r t = regWord r s) ∧
    t.line = s.line ∧ t.ports.busOpen = s.ports.busOpen ∧ t.ports.serOpen = s.ports.serOpen ∧
    t.status.overrun = (s.status.overrun || s.status.busy) ∧
    (i ≠ .owRead → t.ow = s.ow) ∧ (i ≠ .cmpRead → t.cmp = s.cmp) ∧ (i ≠ .fsRead → t.fs = s.fs) ∧
    (i = .cmpRead → t.cmp.img = s.cmp.img ∧ t.cmp.coef = s.cmp.coef ∧ t.cmp.burst = s.cmp.burst) ∧
    (i = .fsRead → t.fs.rx = s.fs.rx) ∧ (i = .owRead → t.ow.shreg = s.ow.shreg) ∧
    t.reply = s.reply ∧ t.inbox = s.inbox ∧ t.draws = s.draws

/-- R371, which the spec derives from the commands' rules: which command ends with which code. A command ends in the event that leaves DONE = 1 and BUSY = 0. -/
def Obligations.CommandEndsWithItsOwnCodes : Prop :=
  ∀ s t : State, Inv Config.params s → step s = .next t →
    s.status.busy = true → t.status.busy = false → t.status.done = true →
    mayEndWith s.seq.active t.status.result = true

/-- R373, R111: the result and diagnostic registers of a unit change only in the event that ends a command of that unit,
or in a Reset. -/
def Obligations.ResultsChangeOnlyAtCompletion : Prop :=
  ∀ s t : State, Inv Config.params s → step s = .next t → (nextEvent s).1 ≠ .reset →
    (t.owRegs ≠ s.owRegs → s.seq.active = .ow ∧ t.status.busy = false ∧ t.status.done = true) ∧
    (t.fsValue ≠ s.fsValue → s.seq.active = .fs ∧ t.status.busy = false ∧ t.status.done = true) ∧
    (t.cmpRegs ≠ s.cmpRegs → s.seq.active = .cmp ∧ t.status.busy = false ∧ t.status.done = true) ∧
    (t.lineElapsed ≠ s.lineElapsed → s.seq.active = .lw ∧ t.status.busy = false ∧ t.status.done = true)

/-! ### The invariant -/

/-- The state after reset (R411) meets the invariant `Inv`, whose clauses StepKeepsInvariant lists with their rules and the
model's choices among them. -/
def Obligations.ResetMeetsInvariant : Prop := Inv Config.params State.reset

/-- Every step keeps the invariant: BUSY, DONE and RESULT agree with the active command (R43, R44, R46, R70), each port is open
exactly while its command uses it (R75, R301, R350), the outstanding request is that of the control point (R75, R118, R122,
R124), the line is driven only in the request pulse (R252), counters and the failure record stay in their ranges (R59, R70, R71,
R73, R74), a command's code while its port closes is one of its own (R371), and registers hold legal contents (R59, R61, R62,
R64, R69). Four points of it are the model's choices and no rule of the spec: that no request is outstanding during the serial
receive (clause `request`, notes/assumptions/21.md); the control point `owStart` (notes/assumptions/20.md); `k` counted from
acceptance in LINE.WAIT (notes/assumptions/10.md); `polls` counted at issue (notes/assumptions/11.md). -/
def Obligations.StepKeepsInvariant : Prop :=
  ∀ s t : State, Inv Config.params s → step s = .next t → Inv Config.params t

/-- R425: with a bus or serial request outstanding, whatever happens but its answer and Reset leaves it outstanding and the
command BUSY, every CMD write then sets OVERRUN and nothing else, and Reset ends the wait. -/
def Obligations.UnansweredRequestStaysBusy : Prop :=
  ∀ (p : Params) (evs : List Event) (s t : State),
    p.wf = true → Inv p s → s.ports.pending ≠ .none →
    (∀ e ∈ evs, e ≠ .reset ∧ (∀ ok bytes, e ≠ .busDone ok bytes) ∧ ∀ ok n, e ≠ .serDone ok n) →
    runEvents p evs s = .next t →
    t.ports.pending = s.ports.pending ∧ t.seq = s.seq ∧ t.status.busy = true ∧
    (∀ v, handleEvent p (WR .cmd v) t = .next { t with reply := .done, status := { t.status with overrun := true } }) ∧
    ∃ u, handleEvent p .reset t = .next u ∧ u.status.busy = false ∧ u.ports.pending = .none

/-! ### The host window -/

/-- R103: a narrow or misaligned access ends in a fault of the access, with no data and no change of SFE's state. The error
response stands in the model's own field `reply`, notes/assumptions/3.md. -/
def Obligations.IllegalAccessFaultsAndChangesNothing : Prop :=
  ∀ (p : Params) (w : AccessWidth) (off : BitVec 12) (v : Word) (s : State), w ≠ .word ∨ off.toNat % 4 ≠ 0 →
    ∃ why, handleEvent p (.hostWrite w off v) s = .next { s with reply := .fault why } ∧
      handleEvent p (.hostRead w off) s = .next { s with reply := .fault why }

/-- R104: a 32-bit aligned access at an offset without a register reads 0 and ignores a write. -/
def Obligations.UnmappedOffsetReadsZeroIgnoresWrite : Prop :=
  ∀ (p : Params) (off : BitVec 12) (v : Word) (s : State), off.toNat % 4 = 0 → (∀ r : Reg, r.offset ≠ off) →
    handleEvent p (.hostRead .word off) s = .next { s with reply := .data 0 } ∧
    handleEvent p (.hostWrite .word off v) s = .next { s with reply := .done }

/-- R106: no read changes SFE's state, whatever its width and offset, and a read repeated gets the same answer. -/
def Obligations.ReadsHaveNoSideEffect : Prop :=
  ∀ (p : Params) (w : AccessWidth) (off : BitVec 12) (s : State),
    ∃ a, handleEvent p (.hostRead w off) s = .next { s with reply := a } ∧
      handleEvent p (.hostRead w off) { s with reply := a } = .next { s with reply := a }

/-- R40, R107: every register stands at its offset of R40, no two share one, a read there returns that register's word, and a write to a
read-only register changes nothing. -/
def Obligations.RegisterReadsAndReadOnlyWrites : Prop :=
  ∀ (p : Params) (r q : Reg) (v : Word) (s : State),
    (r.offset = q.offset → r = q) ∧
    r.offset.toNat =
      (match r with
      | .id => 0x000 | .cmd => 0x004 | .status => 0x008 | .intEn => 0x00C | .lineCtrl => 0x010 | .lineElapsed => 0x014
      | .owHum => 0x020 | .owTemp => 0x024 | .owRaw0 => 0x028 | .owRaw1 => 0x02C | .owStat => 0x030
      | .fsValue => 0x040 | .cmpCfg => 0x050 | .cmpTemp => 0x054 | .cmpPres => 0x058 | .cmpHum => 0x05C
      | .cmpTfine => 0x060 | .cmpAdcT => 0x064 | .cmpAdcP => 0x068 | .cmpAdcH => 0x06C | .cmpStat => 0x070) ∧
    handleEvent p (.hostRead .word r.offset) s = .next { s with reply := .data (regWord r s) } ∧
    regWord .id s = 0x53464531 ∧ regWord .cmd s = 0 ∧
    (r ≠ .cmd → r ≠ .status → r ≠ .intEn → r ≠ .lineCtrl → r ≠ .cmpCfg →
      handleEvent p (.hostWrite .word r.offset v) s = .next { s with reply := .done })

/-- R43 to R48: where the fields of STATUS stand, that bits 3 and 31:20 read 0, the number of every result code (R370), and the
phase codes of R231, which read 0 where no OW.READ runs. -/
def Obligations.StatusWordLayout : Prop :=
  ∀ s : State,
    (regWord .status s).getLsbD 0 = s.status.busy ∧
    (regWord .status s).getLsbD 1 = s.status.done ∧
    (regWord .status s).getLsbD 2 = s.status.overrun ∧
    (regWord .status s).getLsbD 3 = false ∧
    ((regWord .status s).extractLsb' 4 4).toNat =
      (match s.status.result with
      | .ok => 0 | .timeout => 1 | .checksumMismatch => 2 | .framingMismatch => 3 | .dataNotReady => 4
      | .transportUnavailable => 5 | .badCommand => 6 | .arithFault => 7 | .retriesExhausted => 8) ∧
    (regWord .status s).extractLsb' 8 8 = s.status.lastOp ∧
    ((regWord .status s).extractLsb' 16 4).toNat =
      (match s.seq.phase with
      | .owStart => 1
      | .ow .idle => 0 | .ow .requestPulse => 1 | .ow .releaseHigh => 2 | .ow .ackLow => 3 | .ow .ackHigh => 4
      | .ow .ackLow2 => 5 | .ow .bitHigh => 6 | .ow .bitLow => 7 | .ow .backoff => 8
      | _ => 0) ∧
    (regWord .status s).extractLsb' 20 12 = 0

/-- R49: the write-1-to-clear of STATUS, and nothing else changes. -/
def Obligations.StatusWriteClearsFlags : Prop :=
  ∀ (p : Params) (s : State) (v : Word),
    ∃ t, handleEvent p (WR .status v) s = .next t ∧
      t = { s with reply := .done, status := t.status } ∧
      t.status.done = (if v.getLsbD 1 then false else s.status.done) ∧
      t.status.overrun = (if v.getLsbD 2 then false else s.status.overrun) ∧
      t.status.busy = s.status.busy ∧ t.status.result = s.status.result ∧ t.status.lastOp = s.status.lastOp ∧
      handleEvent p (RD .status) s = .next { s with reply := .data (regWord .status s) } ∧
      (regWord .status s).getLsbD 3 = false ∧ (regWord .status s).extractLsb' 20 12 = 0

/-- R374, R50: `irq` is DONE under DONE_IE or OVERRUN under OVR_IE. A write of any value to INT_EN sets the two enables from
bits 0 and 1, reads back with every other bit 0, and changes nothing else; a STATUS write takes away exactly the flags it
clears; acceptance takes DONE away and leaves OVERRUN. -/
def Obligations.InterruptFollowsFlags : Prop :=
  ∀ (p : Params) (s : State) (v : Word) (i : Instr),
    irq s = ((s.status.done && (regWord .intEn s).getLsbD 0) || (s.status.overrun && (regWord .intEn s).getLsbD 1)) ∧
    (∃ t, handleEvent p (WR .intEn v) s = .next t ∧ t = { s with reply := .done, intEn := t.intEn } ∧
      t.intEn.doneIe = v.getLsbD 0 ∧ t.intEn.ovrIe = v.getLsbD 1 ∧ regWord .intEn t = v &&& 0x00000003 ∧
      irq t = ((s.status.done && v.getLsbD 0) || (s.status.overrun && v.getLsbD 1))) ∧
    (∃ t, handleEvent p (WR .status v) s = .next t ∧
      irq t = ((s.status.done && !v.getLsbD 1 && s.intEn.doneIe) || (s.status.overrun && !v.getLsbD 2 && s.intEn.ovrIe))) ∧
    (s.status.busy = false → ∃ t, exec i s = .next t ∧ irq t = (s.status.overrun && s.intEn.ovrIe))

/-- R61, R424: a CMP_CFG write is taken at any time, reads back with its reserved bits 0, and leaves the latched
configuration of a running measurement as it is. -/
def Obligations.CmpCfgWriteLeavesLatchedCopy : Prop :=
  ∀ (p : Params) (s : State) (v : Word),
    ∃ t, handleEvent p (WR .cmpCfg v) s = .next t ∧ t = { s with reply := .done, cmpCfg := t.cmpCfg } ∧
      regWord .cmpCfg t = v &&& 0x00007777 ∧ t.cmp.cfg = s.cmp.cfg

/-- R213, R214: a LINE_CTRL write sets MODE and OUT together while BUSY = 0 and is ignored while BUSY = 1. A read (R215) shows
MODE in bit 0, OUT in bit 1, IN in bit 2 and 0 above, and changes nothing. -/
def Obligations.LineCtrlWriteOnlyWhileIdle : Prop :=
  ∀ (p : Params) (s : State) (v : Word),
    (s.status.busy = false → handleEvent p (WR .lineCtrl v) s =
      .next { s with reply := .done, line := { s.line with mode := v.getLsbD 0, out := v.getLsbD 1 } }) ∧
    (s.status.busy = true → handleEvent p (WR .lineCtrl v) s = .next { s with reply := .done }) ∧
    ∃ w, handleEvent p (RD .lineCtrl) s = .next { s with reply := .data w } ∧
      w.getLsbD 0 = s.line.mode ∧ w.getLsbD 1 = s.line.out ∧ w.getLsbD 2 = s.line.sync2 ∧ w.extractLsb' 3 29 = 0

/-! ### Reset -/

/-- R411: the value every element has right after reset, but for the two synchroniser flip-flops it leaves unspecified. -/
def Obligations.ResetStateHoldsResetValues : Prop :=
  regWord .id State.reset = 0x53464531 ∧ regWord .status State.reset = 0 ∧ regWord .intEn State.reset = 0 ∧
  State.reset.line.mode = false ∧ State.reset.line.out = true ∧ regWord .cmpCfg State.reset = 0x00001110 ∧
  (∀ r : Reg, r ≠ .id → r ≠ .lineCtrl → r ≠ .cmpCfg → regWord r State.reset = 0) ∧
  irq State.reset = false ∧
  State.reset.seq = { active := .none, phase := .idle, k := 0, lwLevel := false, lwTimeout := 0 } ∧
  State.reset.ow = { attempt := 0, bitidx := 0, shreg := 0, fr := .ok, fp := .idle, fb := 0 } ∧
  (∀ i : Fin 42, State.reset.cmp.img[i] = 0) ∧ (∀ i : Fin 8, State.reset.cmp.burst[i] = 0) ∧
  { State.reset.cmp with img := Vector.replicate 42 0, burst := Vector.replicate 8 0 } =
    { cfg := 0, img := Vector.replicate 42 0, coef := ⟨0, 0, 0, 0, 0, 0, 0, 0, 0, 0, 0, 0, 0, 0, 0, 0, 0, 0, 0, 0⟩,
      burst := Vector.replicate 8 0, adcT := 0, adcP := 0, adcH := 0, tFine := 0, polls := 0, pbr := false } ∧
  (∀ i : Fin 9, State.reset.fs.rx[i] = 0) ∧ State.reset.fs.nrx = 0 ∧
  State.reset.ports = { busOpen := false, serOpen := false, pending := .none }

/-- R410 to R412: Reset abandons whatever runs, in any state: every element but the synchroniser holds its reset value, the
line is released, an outstanding request is dropped, and its answer is no longer enabled. That the events to come stay and the
host's last reply is cleared is the model's choice about its own fields, notes/assumptions/18.md. -/
def Obligations.ResetAbandonsEverything : Prop :=
  ∀ (p : Params) (s : State), ∃ t, handleEvent p .reset s = .next t ∧
    { t with line := { t.line with sync1 := false, sync2 := false }, inbox := [], draws := 0 } =
      { State.reset with line := { State.reset.line with sync1 := false, sync2 := false } } ∧
    t.inbox = s.inbox ∧
    (∀ ok bytes u, handleEvent p (.busDone ok bytes) t ≠ .next u) ∧
    (∀ ok n u, handleEvent p (.serDone ok n) t ≠ .next u)

/-- R9: which events are enabled. A step has no transition exactly for an answer to a request that is not outstanding. -/
def Obligations.EveryEnabledEventHasATransition : Prop :=
  ∀ (p : Params) (e : Event) (s : State),
    (∃ t, handleEvent p e s = .next t) ↔
      (∀ ok bytes, e = .busDone ok bytes → ∃ r, s.ports.pending = .bus r) ∧
      (∀ ok n, e = .serDone ok n → ∃ r, s.ports.pending = .ser r)

/-! ### The line and LINE.WAIT -/

/-- R201, R202: after a Tick, LINE_CTRL.IN is the sample: OUT if SFE drove the line before the event, the environment's
level otherwise, whatever the sequencer then did. On a real line where another driver contends this does not hold,
notes/assumptions/7.md. -/
def Obligations.TickSamplesTheLine : Prop :=
  ∀ (p : Params) (e : Bool) (s t : State), handleEvent p (.tick e) s = .next t →
    (regWord .lineCtrl t).getLsbD 2 = (if s.line.mode then s.line.out else e)

/-- Only OW.READ's ticks, a LINE_CTRL write while idle and Reset change MODE or OUT (R214, R216, R252). -/
def Obligations.OnlyOwReadAndIdleHostDriveTheLine : Prop :=
  ∀ (p : Params) (e : Event) (s t : State), handleEvent p e s = .next t →
    t.line.mode ≠ s.line.mode ∨ t.line.out ≠ s.line.out →
    e = .reset ∨ (∃ l, e = .tick l ∧ s.seq.active = .ow) ∨ (∃ v, e = WR .lineCtrl v ∧ s.status.busy = false)

/-- R209, R210, R211, R216, R217: LINE.WAIT, from acceptance on, over every line trace. With a first sample at the
awaited level at count `before.length ≤ T` it ends OK in that tick and LINE_ELAPSED holds the count; with no such sample
among the T + 1 evaluated ones it ends TIMEOUT in the last of them and LINE_ELAPSED is 0. Until then it stays BUSY. -/
def Obligations.LineWaitEndsAtFirstMatchOrDeadline : Prop :=
  ∀ (p : Params) (s : State) (level : Bool) (timeout : Nat) (before : List Bool),
    s.status.busy = false → timeout ≤ 65535 → (∀ x ∈ before, lineSample x s ≠ level) →
    (before.length ≤ timeout →
      (∃ u, runEvents p (WR .cmd (encode (.lineWait level timeout)) :: ticks before) s = .next u ∧
        u.status.busy = true ∧ u.seq.active = .lw) ∧
      ∀ e, lineSample e s = level →
        ∃ t, runEvents p (WR .cmd (encode (.lineWait level timeout)) :: ticks (before ++ [e])) s = .next t ∧
          regWord .lineElapsed t = BitVec.ofNat 32 before.length ∧
          t.status = { s.status with lastOp := 0x04, result := .ok, done := true, busy := false } ∧
          t.seq.active = .none ∧ t.line.mode = s.line.mode ∧ t.line.out = s.line.out ∧
          t.owRegs = s.owRegs ∧ t.fsValue = s.fsValue ∧ t.cmpRegs = s.cmpRegs) ∧
    (before.length = timeout + 1 →
      ∃ t, runEvents p (WR .cmd (encode (.lineWait level timeout)) :: ticks before) s = .next t ∧
        regWord .lineElapsed t = 0 ∧
        t.status = { s.status with lastOp := 0x04, result := .timeout, done := true, busy := false } ∧
        t.seq.active = .none ∧ t.line.mode = s.line.mode ∧ t.line.out = s.line.out ∧
        t.owRegs = s.owRegs ∧ t.fsValue = s.fsValue ∧ t.cmpRegs = s.cmpRegs)

/-! ### OW.READ -/

/-- R232, R248: an attempt begins at tick 0 and in the Tick that ends a back-off, the OW_BACKOFF-th after the failure and no
earlier one: until then the command stays BUSY in Backoff with the line released. The next sample after the beginning is low
whatever the environment does, so no sample sees the line driven high before it is driven low. -/
def Obligations.AttemptBeginsInOneTick : Prop :=
  (∀ (p : Params) (e : Bool) (s : State), s.seq.active = .ow →
    s.seq.phase = .owStart ∨ (s.seq.phase = .ow .backoff ∧ s.seq.k + 1 = p.owBackoff) →
    ∃ t, handleEvent p (.tick e) s = .next t ∧
      t.ow = { s.ow with attempt := s.ow.attempt + 1, bitidx := 0, shreg := 0 } ∧
      t.seq = { s.seq with phase := .ow .requestPulse, k := 0 } ∧ t.status = s.status ∧
      t.line.mode = true ∧ t.line.out = false ∧ ∀ x, lineSample x t = false) ∧
  ∀ (p : Params) (levels : List Bool) (s : State), s.seq.active = .ow → s.seq.phase = .ow .backoff → s.seq.k = 0 →
    s.line.mode = false → s.line.out = false → s.status.busy = true → 1 ≤ p.owBackoff → levels.length ≤ p.owBackoff →
    ∃ t, runEvents p (ticks levels) s = .next t ∧ t.status = s.status ∧ t.owRegs = s.owRegs ∧ t.line.out = false ∧
      (levels.length < p.owBackoff → t.seq = { s.seq with k := levels.length } ∧ t.line.mode = false ∧ t.ow = s.ow) ∧
      (levels.length = p.owBackoff → t.seq = { s.seq with phase := .ow .requestPulse, k := 0 } ∧ t.line.mode = true ∧
        t.ow = { s.ow with attempt := s.ow.attempt + 1, bitidx := 0, shreg := 0 })

/-- R234: from the Tick that begins an attempt, the line is sampled low for the next OW_T_REQ ticks and is released, OUT
still 0, in the last of them. -/
def Obligations.RequestPulseLastsItsTime : Prop :=
  ∀ (p : Params) (s : State) (levels : List Bool), 1 ≤ p.owTReq →
    s.seq.active = .ow → s.seq.phase = .ow .requestPulse → s.seq.k = 0 → s.line.mode = true → s.line.out = false →
    levels.length ≤ p.owTReq →
    ∃ t, runEvents p (ticks levels) s = .next t ∧ t.line.out = false ∧ t.ow = s.ow ∧ t.status = s.status ∧
      (levels.length < p.owTReq → t.line.mode = true ∧ t.seq.phase = .ow .requestPulse) ∧
      (levels.length = p.owTReq → t.line.mode = false ∧ t.seq.phase = .ow .releaseHigh ∧ t.line.sync2 = false)

/-- R239: how a bit is classified and stored. BitLow of a bit before the last that sees its low sample at count `e`
stores a 1 exactly if `e` is at least OW_BIT1_MIN, at its own place of the frame, and leaves every other bit. -/
def Obligations.BitIsClassifiedByItsHighTime : Prop :=
  ∀ (p : Params) (x : Bool) (s : State), s.seq.active = .ow → s.seq.phase = .ow .bitLow → s.ow.bitidx.toNat < 39 →
    lineSample x s = false →
    ∃ t, handleEvent p (.tick x) s = .next t ∧
      frameBit t.ow.shreg s.ow.bitidx.toNat = decide (p.owBit1Min ≤ s.seq.k) ∧
      (∀ i, i < 40 → i ≠ s.ow.bitidx.toNat → frameBit t.ow.shreg i = frameBit s.ow.shreg i) ∧
      t.ow.bitidx.toNat = s.ow.bitidx.toNat + 1 ∧ t.seq.phase = .ow .bitHigh ∧
      t.owRegs = s.owRegs ∧ t.status = s.status

/-- R237, R246 to R251: a wait phase that reaches OW_TIMEOUT without its level fails the attempt with reason, phase and bit
index recorded. With attempts left the back-off begins and no result register changes; the last attempt ends the command
RETRIES_EXHAUSTED, the results 0 and OW_STAT the diagnostics of this failure. -/
def Obligations.WaitTimeoutFailsTheAttempt : Prop :=
  ∀ (p : Params) (x : Bool) (s : State) (ph : OwPhase), ph.isWait = true →
    s.seq.active = .ow → s.seq.phase = .ow ph → s.seq.k = p.owTimeout → lineSample x s ≠ ph.level →
    ∃ t, handleEvent p (.tick x) s = .next t ∧
      t.ow = { s.ow with fr := .timeout, fp := ph, fb := if ph = .bitHigh ∨ ph = .bitLow then s.ow.bitidx else 0 } ∧
      t.line.mode = s.line.mode ∧ t.line.out = s.line.out ∧ t.fsValue = s.fsValue ∧ t.cmpRegs = s.cmpRegs ∧
      (s.ow.attempt.toNat ≠ p.owAttempts →
        t.seq = { s.seq with phase := .ow .backoff, k := 0 } ∧ t.owRegs = s.owRegs ∧ t.status = s.status) ∧
      (s.ow.attempt.toNat = p.owAttempts →
        t.status = { s.status with result := .retriesExhausted, done := true, busy := false } ∧
        t.seq.active = .none ∧ t.seq.phase = .idle ∧
        regWord .owHum t = 0 ∧ regWord .owTemp t = 0 ∧ regWord .owRaw0 t = 0 ∧ regWord .owRaw1 t = 0 ∧
        (regWord .owStat t).toNat =
          (if ph = .bitHigh ∨ ph = .bitLow then s.ow.bitidx.toNat else 0) * 4096 + ph.code.toNat * 256 + 16 +
            s.ow.attempt.toNat)

/-- R241 (30_encoding.md R157): byte Bj of the frame is the weighted sum of its eight bits, the first to arrive heaviest. -/
def Obligations.FrameByteIsSumOfItsBits : Prop :=
  ∀ (shreg : BitVec 40) (j : Fin 5),
    (frameByte shreg j.val).toNat =
      ((List.range 8).map (fun m => (frameBit shreg (8 * j.val + m)).toNat * 2 ^ (7 - m))).sum

/-- R243: the temperature's range, its sign rule and its stored pattern; negative zero is stored as 0. -/
def Obligations.TemperatureIsSignMagnitude : Prop :=
  ∀ shreg : BitVec 40,
    let mag : Int := ((frameByte shreg 2).toNat % 128 * 256 + (frameByte shreg 3).toNat : Nat)
    frameTemperature shreg = (if 128 ≤ (frameByte shreg 2).toNat then -mag else mag) ∧
    -32767 ≤ frameTemperature shreg ∧ frameTemperature shreg ≤ 32767 ∧
    (u32 (frameTemperature shreg)).toInt = frameTemperature shreg ∧
    (frameByte shreg 2 = 0x80 → frameByte shreg 3 = 0 → u32 (frameTemperature shreg) = 0)

/-- R257 and the tick count of R255, which the spec derives from R232 to R244: every frame whose checksum matches is decoded
exactly, on any attempt. A request pulse under any line levels, then a sensor that keeps every phase within OW_TIMEOUT and
holds the line high in bit i for at least OW_BIT1_MIN samples exactly where the frame's bit is 1: the command ends OK at the
tick R255 gives, still BUSY with the old results before it, with the frame's humidity, temperature and raw bytes. On the first
attempt of an OW.READ given to an idle SFE, OW_STAT reads 1; on an attempt that begins as a back-off ends, it holds the number of
that attempt and the reason, phase and bit index of the most recent failure (R251). -/
def Obligations.OwReadDecodesEveryValidFrame : Prop :=
  ∀ (p : Params) (s : State) (frame : BitVec 40) (pulse : List Bool) (h0 h1 l h2 : Nat) (lo hi : Nat → Nat),
    p.wf = true →
    (frameByte frame 4).toNat =
      ((frameByte frame 0).toNat + (frameByte frame 1).toNat + (frameByte frame 2).toNat + (frameByte frame 3).toNat) % 256 →
    pulse.length = p.owTReq + 1 → h0 < p.owTimeout →
    (1 ≤ h1 ∧ h1 ≤ p.owTimeout) → (1 ≤ l ∧ l ≤ p.owTimeout) → (1 ≤ h2 ∧ h2 ≤ p.owTimeout) →
    (∀ i, i < 40 → 1 ≤ lo i ∧ lo i ≤ p.owTimeout ∧ 1 ≤ hi i ∧ hi i ≤ p.owTimeout) →
    (∀ i, i < 40 → frameBit frame i = decide (p.owBit1Min ≤ hi i)) →
    let trace := attemptTrace h0 h1 l h2 lo hi
    (s.status.busy = false →
      (∃ u, runEvents p (WR .cmd 0x00000001 :: ticks (pulse ++ trace.dropLast)) s = .next u ∧
        u.status.busy = true ∧ u.owRegs = s.owRegs) ∧
      ∃ t, runEvents p (WR .cmd 0x00000001 :: ticks (pulse ++ trace)) s = .next t ∧
        t.status = { s.status with lastOp := 0x01, result := .ok, done := true, busy := false } ∧
        owDecoded frame t ∧ (regWord .owStat t).toNat = 1) ∧
    (s.status.busy = true → s.seq.active = .ow → s.seq.phase = .ow .backoff → s.seq.k + 1 = p.owBackoff →
      s.ow.attempt.toNat < p.owAttempts →
      (∃ u, runEvents p (ticks (pulse ++ trace.dropLast)) s = .next u ∧ u.status.busy = true ∧ u.owRegs = s.owRegs) ∧
      ∃ t, runEvents p (ticks (pulse ++ trace)) s = .next t ∧
        t.status = { s.status with result := .ok, done := true, busy := false } ∧ owDecoded frame t ∧
        (regWord .owStat t).toNat =
          s.ow.fb.toNat * 4096 + s.ow.fp.code.toNat * 256 + s.ow.fr.code.toNat * 16 + (s.ow.attempt.toNat + 1))

/-- R240, R247, R249: the last bit of a frame whose checksum does not match fails the attempt in that same event, with
phase and bit index 0; the frame reaches no register. -/
def Obligations.BadChecksumFailsTheAttempt : Prop :=
  ∀ (p : Params) (x : Bool) (s : State), s.seq.active = .ow → s.seq.phase = .ow .bitLow → s.ow.bitidx = 39 →
    lineSample x s = false → frameChecksumOk (setFrameBit s.ow.shreg 39 (decide (p.owBit1Min ≤ s.seq.k))) = false →
    ∃ t, handleEvent p (.tick x) s = .next t ∧
      t.ow.fr = .checksumMismatch ∧ t.ow.fp = .idle ∧ t.ow.fb = 0 ∧ t.ow.attempt = s.ow.attempt ∧
      (s.ow.attempt.toNat ≠ p.owAttempts →
        t.seq = { s.seq with phase := .ow .backoff, k := 0 } ∧ t.owRegs = s.owRegs ∧ t.status = s.status) ∧
      (s.ow.attempt.toNat = p.owAttempts →
        t.status = { s.status with result := .retriesExhausted, done := true, busy := false } ∧
        regWord .owHum t = 0 ∧ regWord .owTemp t = 0 ∧ regWord .owRaw0 t = 0 ∧ regWord .owRaw1 t = 0 ∧
        (regWord .owStat t).toNat = 32 + s.ow.attempt.toNat)

/-! ### FS.READ -/

/-- R345: the checksum check passes exactly if bytes 1 to 8 sum to 0 modulo 256. -/
def Obligations.SerialChecksumIsZeroSum : Prop :=
  ∀ rx : Vector Byte 9, serialChecksumOk rx = true ↔
    (rx[1].toNat + rx[2].toNat + rx[3].toNat + rx[4].toNat + rx[5].toNat + rx[6].toNat + rx[7].toNat + rx[8].toNat) % 256 = 0

/-- R351, which the spec derives from R343 and R345: a frame that passes, with exactly one byte replaced by a different value, fails; a change of byte 0 or 1 fails
the framing check. -/
def Obligations.SingleByteMutationIsRejected : Prop :=
  ∀ (rx : Vector Byte 9) (i : Fin 9) (b : Byte), framingOk rx = true → serialChecksumOk rx = true → b ≠ rx[i] →
    (framingOk (rx.set i b) && serialChecksumOk (rx.set i b)) = false ∧
    (i = 0 ∨ i = 1 → framingOk (rx.set i b) = false) ∧
    (2 ≤ i.val → framingOk (rx.set i b) = true ∧ serialChecksumOk (rx.set i b) = false)

/-- R340, R342 to R347, R350, R352: the whole exchange. Any nine bytes after a good open and write, each after at most
SER_IBT - 1 Ticks, end the command in the event of the ninth byte and no earlier one, port closed: framing first, then the
checksum, then the value. -/
def Obligations.FsReadValidatesEveryResponse : Prop :=
  ∀ (p : Params) (s : State) (rx : Vector Byte 9) (gaps : Fin 9 → List Bool) (n : Nat),
    s.status.busy = false → s.ports.serOpen = false → (∀ i, (gaps i).length < p.serIbt) →
    (∃ u, runEvents p (WR .cmd 0x00000002 :: .serDone true n :: .serDone true 9 :: (spacedResponse rx gaps).dropLast) s =
        .next u ∧ u.status.busy = true ∧ u.fsValue = s.fsValue ∧ u.ports.serOpen = true) ∧
    ∃ t, runEvents p (WR .cmd 0x00000002 :: .serDone true n :: .serDone true 9 :: spacedResponse rx gaps) s = .next t ∧
      t.status = { s.status with
        lastOp := 0x02
        done := true
        busy := false
        result :=
          if ¬(rx[0] = 0xFF ∧ rx[1] = 0x86) then .framingMismatch
          else if (rx[1].toNat + rx[2].toNat + rx[3].toNat + rx[4].toNat + rx[5].toNat + rx[6].toNat + rx[7].toNat +
              rx[8].toNat) % 256 ≠ 0 then .checksumMismatch
          else .ok } ∧
      (regWord .fsValue t).toNat = (if t.status.result = .ok then rx[2].toNat * 256 + rx[3].toNat else 0) ∧
      t.ports = { s.ports with serOpen := false, pending := .none } ∧ t.seq.active = .none ∧
      t.owRegs = s.owRegs ∧ t.cmpRegs = s.cmpRegs ∧ t.lineElapsed = s.lineElapsed ∧
      t.line.mode = s.line.mode ∧ t.line.out = s.line.out

/-- R342, R348: SER_IBT ticks without a byte end the receive with TIMEOUT in the last of them, port closed and FS_VALUE
0; one tick fewer leaves the receive running. -/
def Obligations.SilentSerialSensorTimesOut : Prop :=
  ∀ (p : Params) (s : State) (levels : List Bool), 1 ≤ p.serIbt →
    s.seq.active = .fs → s.seq.phase = .fsReceive → s.seq.k = 0 → levels.length ≤ p.serIbt →
    ∃ t, runEvents p (ticks levels) s = .next t ∧
      (levels.length < p.serIbt → t.seq.phase = .fsReceive ∧ t.status = s.status ∧ t.fsValue = s.fsValue) ∧
      (levels.length = p.serIbt →
        t.status = { s.status with result := .timeout, done := true, busy := false } ∧
        regWord .fsValue t = 0 ∧ t.ports.serOpen = false ∧ t.seq.active = .none)

/-- 20_memory.md R125: a serial byte or error outside the receive phase is discarded. -/
def Obligations.SerialBytesOutsideReceiveAreDiscarded : Prop :=
  ∀ (p : Params) (b : Byte) (s : State), s.seq.phase ≠ .fsReceive →
    handleEvent p (.serRx b) s = .next s ∧ handleEvent p .serRxErr s = .next s

/-- R348: a failed open, a failed or short write and a receive error each end FS.READ TRANSPORT_UNAVAILABLE with
FS_VALUE 0 and the port closed. -/
def Obligations.SerialFailureEndsTransportUnavailable : Prop :=
  ∀ (p : Params) (s : State) (e : Event), Inv p s → s.seq.active = .fs →
    (s.seq.phase = .fsOpen ∧ ∃ n, e = .serDone false n) ∨
    (s.seq.phase = .fsWrite ∧ ∃ ok n, e = .serDone ok n ∧ (ok = false ∨ n ≠ 9)) ∨
    (s.seq.phase = .fsReceive ∧ e = .serRxErr) →
    ∃ t, handleEvent p e s = .next t ∧
      t.status = { s.status with result := .transportUnavailable, done := true, busy := false } ∧
      regWord .fsValue t = 0 ∧ t.ports.serOpen = false ∧ t.ports.pending = .none ∧ t.seq.active = .none

/-! ### CMP.READ: data formats and arithmetic -/

/-- R285: the packing, coefficient by coefficient, over numbers. -/
def Obligations.PackingFollowsTheImageLayout : Prop :=
  ∀ img : Vector Byte 42,
    let c := packCoefficients img
    let s8 (b : Byte) : Int := if b.toNat < 128 then (b.toNat : Int) else (b.toNat : Int) - 256
    let le (a b : Byte) : Int := a.toNat + 256 * b.toNat
    let s16 (a b : Byte) : Int := if le a b < 32768 then le a b else le a b - 65536
    zext c.parT1 = le img[31] img[32] ∧ sext c.parT2 = s16 img[0] img[1] ∧ sext c.parT3 = s8 img[2] ∧
    zext c.parP1 = le img[4] img[5] ∧ sext c.parP2 = s16 img[6] img[7] ∧ sext c.parP3 = s8 img[8] ∧
    sext c.parP4 = s16 img[10] img[11] ∧ sext c.parP5 = s16 img[12] img[13] ∧ sext c.parP6 = s8 img[15] ∧
    sext c.parP7 = s8 img[14] ∧ sext c.parP8 = s16 img[18] img[19] ∧ sext c.parP9 = s16 img[20] img[21] ∧
    zext c.parP10 = img[22].toNat ∧
    zext c.parH1 = (img[25].toNat * 16 + img[24].toNat % 16 : Nat) ∧
    zext c.parH2 = (img[23].toNat * 16 + img[24].toNat / 16 : Nat) ∧
    sext c.parH3 = s8 img[26] ∧ sext c.parH4 = s8 img[27] ∧ sext c.parH5 = s8 img[28] ∧
    zext c.parH6 = img[29].toNat ∧ sext c.parH7 = s8 img[30]

/-- 30_encoding.md R161, R162: the three control bytes from the CMP_CFG fields, and the raw sample from the burst, over
numbers; the low 4 bits of burst bytes 2 and 5 do not matter. -/
def Obligations.SensorBytesFollowTheirLayouts : Prop :=
  (∀ cfg : BitVec 15,
    (configByte cfg).toNat = (cfg.toNat % 8) * 4 ∧
    (ctrlHumByte cfg).toNat = cfg.toNat / 16 % 8 ∧
    (ctrlMeasByte cfg).toNat = (cfg.toNat / 256 % 8) * 32 + (cfg.toNat / 4096 % 8) * 4 + 1) ∧
  ∀ b : Vector Byte 8,
    (burstAdcP b).toNat = b[0].toNat * 4096 + b[1].toNat * 16 + b[2].toNat / 16 ∧
    (burstAdcT b).toNat = b[3].toNat * 4096 + b[4].toNat * 16 + b[5].toNat / 16 ∧
    (burstAdcH b).toNat = b[6].toNat * 256 + b[7].toNat

/-- 00_scope.md R13: the wrap is the one number congruent to x modulo 2^N in the signed N-bit range. -/
def Obligations.WrapIsTheUniqueRepresentative : Prop :=
  ∀ (n : Nat) (x y : Int),
    y = wrap (n + 1) x ↔ ((2 ^ (n + 1) : Int) ∣ (x - y) ∧ -(2 ^ n : Int) ≤ y ∧ y < (2 ^ n : Int))

/-- 00_scope.md R14: asr floors, tdiv truncates toward zero on 32-bit numbers, and its one overflowing case wraps. -/
def Obligations.ShiftsFloorAndDivisionTruncates : Prop :=
  (∀ (x : Int) (n : Nat), asr x n * 2 ^ n ≤ x ∧ x < (asr x n + 1) * 2 ^ n) ∧
  (∀ a b : Int, -(2 ^ 31) ≤ a → a < 2 ^ 31 → -(2 ^ 31) ≤ b → b < 2 ^ 31 → b ≠ 0 → ¬(a = -(2 ^ 31) ∧ b = -1) →
    tdiv a b = Int.tdiv a b) ∧
  tdiv (-(2 ^ 31)) (-1) = -(2 ^ 31)

/-- R294: the pressure branch. At or above 2^30 the quotient is formed first; below, the numerator is doubled first,
and for a numerator of at least -2^30 that doubling does not overflow. -/
def Obligations.PressureBranchAvoidsOverflow : Prop :=
  ∀ (c : Coeffs) (adcP tFine : Int) (pres : BitVec 32) (pbr : Bool), compPres c adcP tFine = some (pres, pbr) →
    let pc := presNumerator c adcP tFine
    let v1 := presDivisor c tFine
    (2 ^ 30 ≤ pc → pbr = true ∧ pres = u32 (presFinal c (shl32 (tdiv pc v1) 1))) ∧
    (pc < 2 ^ 30 → pbr = false ∧ pres = u32 (presFinal c (tdiv (shl32 pc 1) v1))) ∧
    (-(2 ^ 30) ≤ pc → pc < 2 ^ 30 → shl32 pc 1 = 2 * pc)

/-- R298: the humidity is clamped to 0 .. 100000 for every input, and left alone inside. -/
def Obligations.HumidityIsAlwaysClamped : Prop :=
  ∀ (c : Coeffs) (adcH tFine : Int),
    0 ≤ compHum c adcH tFine ∧ compHum c adcH tFine ≤ 100000 ∧
    (compHumRaw c adcH tFine < 0 → compHum c adcH tFine = 0) ∧
    (100000 < compHumRaw c adcH tFine → compHum c adcH tFine = 100000) ∧
    (0 ≤ compHumRaw c adcH tFine → compHumRaw c adcH tFine ≤ 100000 →
      compHum c adcH tFine = compHumRaw c adcH tFine)

/-! ### CMP.READ: the sequence -/

/-- R280, R283 to R299, R306: the whole measurement. Given to an idle SFE, with every request answered well, any
number of not-ready polls below the limit, any image bytes and any burst whose pressure divisor is not 0, CMP.READ ends
OK in the close's answer with every register at the value of the formulas. -/
def Obligations.CmpReadComputesTheMeasurement : Prop :=
  ∀ (p : Params) (s : State) (cal1 cal2 cal3 notReady burst : List Byte) (st : Byte) (ok : Bool) (extra : List Byte)
    (pres : BitVec 32) (pbr : Bool),
    p.wf = true → s.status.busy = false →
    cal1.length = 23 → cal2.length = 14 → cal3.length = 5 → burst.length = 8 →
    notReady.length < p.cmpPollMax → (∀ b ∈ notReady, b.getLsbD 7 = false) → st.getLsbD 7 = true →
    let c := packCoefficients (imageOf cal1 cal2 cal3)
    let b := burstOf burst
    let tf := compTFine c (burstAdcT b).toNat
    compPres c (burstAdcP b).toNat tf = some (pres, pbr) →
    ∃ t, runEvents p (WR .cmd 0x00000003 :: (setupAnswers cal1 cal2 cal3 ++ notReadyPolls p notReady ++
        [.busDone true [st], .busDone true burst, .busDone ok extra])) s = .next t ∧
      t.status = { s.status with lastOp := 0x03, result := .ok, done := true, busy := false } ∧
      regWord .cmpTemp t = u32 (compTemp tf) ∧ regWord .cmpPres t = pres ∧
      regWord .cmpHum t = u32 (compHum c (burstAdcH b).toNat tf) ∧ (regWord .cmpTfine t).toInt = tf ∧
      regWord .cmpAdcT t = (burstAdcT b).setWidth 32 ∧ regWord .cmpAdcP t = (burstAdcP b).setWidth 32 ∧
      regWord .cmpAdcH t = (burstAdcH b).setWidth 32 ∧
      (regWord .cmpStat t).toNat = pbr.toNat * 256 + notReady.length + 1 ∧
      t.ports = { s.ports with busOpen := false, pending := .none } ∧
      t.owRegs = s.owRegs ∧ t.fsValue = s.fsValue ∧ t.lineElapsed = s.lineElapsed

/-- R302, which the spec derives from R285 and R289 to R298: two CMP.READ commands that receive the same image and burst bytes write the same results, whatever the two
states, settings and numbers of polls before them. -/
def Obligations.CmpResultsDependOnlyOnReceivedBytes : Prop :=
  ∀ (p : Params) (s1 s2 t1 t2 : State) (cal1 cal2 cal3 n1 n2 burst : List Byte) (st1 st2 : Byte),
    p.wf = true → s1.status.busy = false → s2.status.busy = false →
    cal1.length = 23 → cal2.length = 14 → cal3.length = 5 → burst.length = 8 →
    n1.length < p.cmpPollMax → n2.length < p.cmpPollMax →
    (∀ b ∈ n1, b.getLsbD 7 = false) → (∀ b ∈ n2, b.getLsbD 7 = false) →
    st1.getLsbD 7 = true → st2.getLsbD 7 = true →
    runEvents p (WR .cmd 0x00000003 :: (setupAnswers cal1 cal2 cal3 ++ notReadyPolls p n1 ++
      [.busDone true [st1], .busDone true burst, .busDone true []])) s1 = .next t1 →
    runEvents p (WR .cmd 0x00000003 :: (setupAnswers cal1 cal2 cal3 ++ notReadyPolls p n2 ++
      [.busDone true [st2], .busDone true burst, .busDone true []])) s2 = .next t2 →
    { t1.cmpRegs with stat := 0 } = { t2.cmpRegs with stat := 0 } ∧ t1.status.result = t2.status.result

/-- R295, R300: a pressure divisor of 0 ends the command ARITH_FAULT, bus closed, every result 0 and PBR 0; `par_p1 = 0`
makes it 0 whatever else. -/
def Obligations.ZeroDivisorEndsArithFault : Prop :=
  (∀ (c : Coeffs) (tFine : Int), c.parP1 = 0 → presDivisor c tFine = 0) ∧
  (∀ (c : Coeffs) (adcP tFine : Int), presDivisor c tFine = 0 ↔ compPres c adcP tFine = none) ∧
  ∀ (p : Params) (s : State) (burst extra : List Byte) (ok : Bool), Inv p s → s.seq.phase = .cmpBurst →
    burst.length = 8 →
    presDivisor s.cmp.coef (compTFine s.cmp.coef (burstAdcT (burstOf burst)).toNat) = 0 →
    ∃ t, runEvents p [.busDone true burst, .busDone ok extra] s = .next t ∧
      t.status = { s.status with result := .arithFault, done := true, busy := false } ∧
      t.cmpRegs = { temp := 0, pres := 0, hum := 0, tfine := 0, adcT := 0, adcP := 0, adcH := 0,
                    stat := s.cmp.polls.setWidth 9 } ∧
      t.ports = { s.ports with busOpen := false, pending := .none }

/-- R288, R300: CMP_POLL_MAX status reads that are not ready end the command DATA_NOT_READY with POLLS at the maximum,
after a close and with no delay after the last read. -/
def Obligations.PollLimitEndsDataNotReady : Prop :=
  ∀ (p : Params) (s : State) (cal1 cal2 cal3 notReady : List Byte) (st : Byte) (ok : Bool) (extra : List Byte),
    p.wf = true → s.status.busy = false → cal1.length = 23 → cal2.length = 14 → cal3.length = 5 →
    notReady.length + 1 = p.cmpPollMax → (∀ b ∈ notReady, b.getLsbD 7 = false) → st.getLsbD 7 = false →
    ∃ t, runEvents p (WR .cmd 0x00000003 :: (setupAnswers cal1 cal2 cal3 ++ notReadyPolls p notReady ++
        [.busDone true [st], .busDone ok extra])) s = .next t ∧
      t.status = { s.status with lastOp := 0x03, result := .dataNotReady, done := true, busy := false } ∧
      t.cmpRegs = { temp := 0, pres := 0, hum := 0, tfine := 0, adcT := 0, adcP := 0, adcH := 0,
                    stat := BitVec.ofNat 9 p.cmpPollMax } ∧
      t.ports = { s.ports with busOpen := false, pending := .none }

/-- R118, R121, R282, R300, R301: a failed BusOpen ends the command TRANSPORT_UNAVAILABLE at once, with no close. Any later
request that fails, or is answered with another byte count (0 for an open or a write, notes/assumptions/5.md), makes SFE close the port, and the close's answer, whatever
it says, then ends the command TRANSPORT_UNAVAILABLE. Every result is 0, and the port is closed. -/
def Obligations.BusFailureEndsTransportUnavailable : Prop :=
  ∀ (p : Params) (s : State) (r : BusReq) (ok : Bool) (bytes : List Byte), Inv p s →
    s.ports.pending = .bus r → (ok = false ∨ bytes.length ≠ r.count) → r ≠ .closeDev →
    ∃ u, handleEvent p (.busDone ok bytes) s = .next u ∧
      ((∃ a, r = .openDev a) →
        u.status = { s.status with result := .transportUnavailable, done := true, busy := false } ∧
        u.ports = { busOpen := false, serOpen := false, pending := .none } ∧
        u.cmpRegs = { temp := 0, pres := 0, hum := 0, tfine := 0, adcT := 0, adcP := 0, adcH := 0, stat := 0 }) ∧
      ((∀ a, r ≠ .openDev a) →
        u.ports.pending = .bus .closeDev ∧ u.status = s.status ∧ u.cmpRegs = s.cmpRegs ∧
        ∀ ok2 extra, ∃ t, handleEvent p (.busDone ok2 extra) u = .next t ∧
          t.status = { s.status with result := .transportUnavailable, done := true, busy := false } ∧
          t.ports = { busOpen := false, serOpen := false, pending := .none } ∧
          { t.cmpRegs with stat := 0 } =
            { temp := 0, pres := 0, hum := 0, tfine := 0, adcT := 0, adcP := 0, adcH := 0, stat := 0 })

/-! ### The GPIO-window view -/

/-- 20_memory.md R127, R128: setting a pin's direction writes its code into its own three bits, 3 times (pin mod 10), of word
pin / 10 of the function-select words, and leaves every other bit of every word alone. It is a read and then a write: whatever
another writer made of the window in between, the write puts back the word that was read, its field apart. That the level register reads as before is the model's
choice, notes/assumptions/23.md. -/
def Obligations.PinDirectionWritesOnlyItsField : Prop :=
  ∀ (pin : Pin) (output : Bool) (g between : Gpw), g.ready = true → between.ready = true →
    (fselIndex pin).val = pin.val / 10 ∧ fselShift pin = pin.val % 10 * 3 ∧
    (∃ h, gpwSetDirection pin output g = .next h ∧ h.ready = true ∧ h.latch = g.latch ∧ h.lev = g.lev ∧
      (h.fsel[fselIndex pin]).extractLsb' (fselShift pin) 3 = (if output then 1 else 0) ∧
      ∀ (i : Fin 6) (b : Nat), b < 32 → (i ≠ fselIndex pin ∨ b < fselShift pin ∨ fselShift pin + 3 ≤ b) →
        (h.fsel[i]).getLsbD b = (g.fsel[i]).getLsbD b) ∧
    ∃ d, gpwBeginDirection pin output g = .next d ∧ gpwEndDirection d g = gpwSetDirection pin output g ∧
      ∃ h, gpwEndDirection d between = .next h ∧ h.latch = between.latch ∧
        (h.fsel[fselIndex pin]).extractLsb' (fselShift pin) 3 = (if output then 1 else 0) ∧
        (∀ b, b < 32 → b < fselShift pin ∨ fselShift pin + 3 ≤ b →
          (h.fsel[fselIndex pin]).getLsbD b = (g.fsel[fselIndex pin]).getLsbD b) ∧
        ∀ i : Fin 6, i ≠ fselIndex pin → h.fsel[i] = between.fsel[i]

/-- 20_memory.md R129 to R131: writing a pin's level stores one bit, pin mod 32, to the set register at 0x1C or to the clear
register at 0x28, which acts on that bit of the output latch and on no other; reading a level reads that bit of the level
register at 0x34. Pins 32 and up share the bits of pins 0 and up. The latch behind the set and clear registers is the model's
choice, notes/assumptions/13.md, and so is that a store leaves the level register as it reads, notes/assumptions/23.md. -/
def Obligations.PinLevelActsOnOneBit : Prop :=
  ∀ (pin : Pin) (high : Bool) (g : Gpw), g.ready = true →
    gpwReadLevel pin g = .next (g.lev.getLsbD (pin.val % 32)) ∧ gpwLoad 0x034 g = .next (g.lev, g) ∧
    (∀ i : Fin 6, gpwLoad (BitVec.ofNat 12 (4 * i.val)) g = .next (g.fsel[i], g)) ∧
    (∀ w : Word, gpwStore 0x01C w g = .next { g with latch := g.latch ||| w } ∧
      gpwStore 0x028 w g = .next { g with latch := g.latch &&& ~~~w }) ∧
    ∃ h, gpwWriteLevel pin high g = .next h ∧ h.ready = true ∧ h.fsel = g.fsel ∧ h.lev = g.lev ∧
      ∀ b, b < 32 → h.latch.getLsbD b = (if b = pin.val % 32 then high else g.latch.getLsbD b)

/-- 20_memory.md R132: before the window's initialisation every pin operation is refused; the initialisation may be
repeated without effect. -/
def Obligations.PinOperationsNeedInitialisation : Prop :=
  ∀ (pin : Pin) (x : Bool) (g : Gpw),
    (g.ready = false → gpwSetDirection pin x g = .refused .pinNotInitialised ∧
      gpwWriteLevel pin x g = .refused .pinNotInitialised ∧ gpwReadLevel pin g = .refused .pinNotInitialised) ∧
    ∃ h, gpwInit g = .next h ∧ gpwInit h = .next h ∧ (∃ k, gpwWriteLevel pin x h = .next k) ∧
      (g.ready = true → h = g)
end

