-- ==== Sys2Proof/Laws/Gpio.lean ====
section
/-! SUPPORT. One lemma for each operation of the GPIO-window view that says what it can do. -/

namespace Sys2Proof.Machine

open Sys2Proof

@[simp] theorem gpwRegAt_fsel (i : Fin 6) : gpwRegAt (gpfselOffset i) = some (.fsel i) := by
  revert i; decide

@[simp] theorem gpwRegAt_set : gpwRegAt gpsetOffset = some .set := by decide

@[simp] theorem gpwRegAt_clr : gpwRegAt gpclrOffset = some .clr := by decide

@[simp] theorem gpwRegAt_lev : gpwRegAt gplevOffset = some .lev := by decide

theorem gpwLoad_fsel {g : Gpw} (h : g.ready = true) (i : Fin 6) : gpwLoad (gpfselOffset i) g = .next (g.fsel[i], g) := by
  simp [gpwLoad, h]

theorem gpwLoad_lev {g : Gpw} (h : g.ready = true) : gpwLoad gplevOffset g = .next (g.lev, g) := by
  simp [gpwLoad, h]

theorem gpwStore_fsel {g : Gpw} (h : g.ready = true) (i : Fin 6) (w : Word) :
    gpwStore (gpfselOffset i) w g = .next { g with fsel := g.fsel.set i w } := by
  simp [gpwStore, h]

theorem gpwStore_set {g : Gpw} (h : g.ready = true) (w : Word) :
    gpwStore gpsetOffset w g = .next { g with latch := g.latch ||| w } := by
  simp [gpwStore, h]

theorem gpwStore_clr {g : Gpw} (h : g.ready = true) (w : Word) :
    gpwStore gpclrOffset w g = .next { g with latch := g.latch &&& ~~~w } := by
  simp [gpwStore, h]

/-- Every load and store is refused before the initialisation. -/
theorem gpw_not_ready {g : Gpw} (h : g.ready = false) (off : BitVec 12) (w : Word) :
    gpwLoad off g = .refused .pinNotInitialised ∧ gpwStore off w g = .refused .pinNotInitialised := by
  simp [gpwLoad, gpwStore, h]

theorem gpwBeginDirection_ready {g : Gpw} (h : g.ready = true) (p : Pin) (output : Bool) :
    gpwBeginDirection p output g = .next { pin := p, output := output, seen := g.fsel[fselIndex p] } := by
  simp [gpwBeginDirection, gpwLoad_fsel h]

theorem gpwEndDirection_ready {g : Gpw} (h : g.ready = true) (d : DirectionWrite) :
    gpwEndDirection d g = .next { g with fsel := g.fsel.set (fselIndex d.pin) (directionWord d) } :=
  gpwStore_fsel h _ _

theorem gpwSetDirection_ready {g : Gpw} (h : g.ready = true) (p : Pin) (output : Bool) :
    gpwSetDirection p output g = .next { g with
      fsel := g.fsel.set (fselIndex p) (directionWord { pin := p, output := output, seen := g.fsel[fselIndex p] }) } := by
  simp [gpwSetDirection, gpwBeginDirection_ready h, gpwEndDirection_ready h]

theorem gpwReadLevel_ready {g : Gpw} (h : g.ready = true) (p : Pin) :
    gpwReadLevel p g = .next (g.lev.getLsbD (p.val % 32)) := by
  simp [gpwReadLevel, gpwLoad_lev h]

theorem gpwWriteLevel_ready {g : Gpw} (h : g.ready = true) (p : Pin) (high : Bool) :
    gpwWriteLevel p high g = .next { g with
      latch := if high then g.latch ||| 1#32 <<< (p.val % 32) else g.latch &&& ~~~(1#32 <<< (p.val % 32)) } := by
  cases high <;> simp [gpwWriteLevel, gpwStore_set h, gpwStore_clr h]

end Sys2Proof.Machine
end

