-- ==== Sys2Proof/Laws/State.lean ====
section
/-! SUPPORT. One lemma per field of State per named update, true by rfl, so that no later proof unfolds a record update. -/

namespace Sys2Proof.Machine

open Sys2Proof

@[simp] theorem finish_status (c : ResultCode) (s : State) : (finish c s).status = { s.status with result := c, done := true, busy := false } := rfl
@[simp] theorem finish_intEn (c : ResultCode) (s : State) : (finish c s).intEn = s.intEn := rfl
@[simp] theorem finish_line (c : ResultCode) (s : State) : (finish c s).line = s.line := rfl
@[simp] theorem finish_lineElapsed (c : ResultCode) (s : State) : (finish c s).lineElapsed = s.lineElapsed := rfl
@[simp] theorem finish_owRegs (c : ResultCode) (s : State) : (finish c s).owRegs = s.owRegs := rfl
@[simp] theorem finish_fsValue (c : ResultCode) (s : State) : (finish c s).fsValue = s.fsValue := rfl
@[simp] theorem finish_cmpCfg (c : ResultCode) (s : State) : (finish c s).cmpCfg = s.cmpCfg := rfl
@[simp] theorem finish_cmpRegs (c : ResultCode) (s : State) : (finish c s).cmpRegs = s.cmpRegs := rfl
@[simp] theorem finish_seq (c : ResultCode) (s : State) : (finish c s).seq = { s.seq with active := .none, phase := .idle } := rfl
@[simp] theorem finish_ow (c : ResultCode) (s : State) : (finish c s).ow = s.ow := rfl
@[simp] theorem finish_cmp (c : ResultCode) (s : State) : (finish c s).cmp = s.cmp := rfl
@[simp] theorem finish_fs (c : ResultCode) (s : State) : (finish c s).fs = s.fs := rfl
@[simp] theorem finish_ports (c : ResultCode) (s : State) : (finish c s).ports = s.ports := rfl
@[simp] theorem finish_reply (c : ResultCode) (s : State) : (finish c s).reply = s.reply := rfl
@[simp] theorem finish_inbox (c : ResultCode) (s : State) : (finish c s).inbox = s.inbox := rfl
@[simp] theorem finish_draws (c : ResultCode) (s : State) : (finish c s).draws = s.draws := rfl

@[simp] theorem setOverrun_status (s : State) : (setOverrun s).status = { s.status with overrun := true } := rfl
@[simp] theorem setOverrun_intEn (s : State) : (setOverrun s).intEn = s.intEn := rfl
@[simp] theorem setOverrun_line (s : State) : (setOverrun s).line = s.line := rfl
@[simp] theorem setOverrun_lineElapsed (s : State) : (setOverrun s).lineElapsed = s.lineElapsed := rfl
@[simp] theorem setOverrun_owRegs (s : State) : (setOverrun s).owRegs = s.owRegs := rfl
@[simp] theorem setOverrun_fsValue (s : State) : (setOverrun s).fsValue = s.fsValue := rfl
@[simp] theorem setOverrun_cmpCfg (s : State) : (setOverrun s).cmpCfg = s.cmpCfg := rfl
@[simp] theorem setOverrun_cmpRegs (s : State) : (setOverrun s).cmpRegs = s.cmpRegs := rfl
@[simp] theorem setOverrun_seq (s : State) : (setOverrun s).seq = s.seq := rfl
@[simp] theorem setOverrun_ow (s : State) : (setOverrun s).ow = s.ow := rfl
@[simp] theorem setOverrun_cmp (s : State) : (setOverrun s).cmp = s.cmp := rfl
@[simp] theorem setOverrun_fs (s : State) : (setOverrun s).fs = s.fs := rfl
@[simp] theorem setOverrun_ports (s : State) : (setOverrun s).ports = s.ports := rfl
@[simp] theorem setOverrun_reply (s : State) : (setOverrun s).reply = s.reply := rfl
@[simp] theorem setOverrun_inbox (s : State) : (setOverrun s).inbox = s.inbox := rfl
@[simp] theorem setOverrun_draws (s : State) : (setOverrun s).draws = s.draws := rfl

@[simp] theorem goto_status (ph : Phase) (s : State) : (goto ph s).status = s.status := rfl
@[simp] theorem goto_intEn (ph : Phase) (s : State) : (goto ph s).intEn = s.intEn := rfl
@[simp] theorem goto_line (ph : Phase) (s : State) : (goto ph s).line = s.line := rfl
@[simp] theorem goto_lineElapsed (ph : Phase) (s : State) : (goto ph s).lineElapsed = s.lineElapsed := rfl
@[simp] theorem goto_owRegs (ph : Phase) (s : State) : (goto ph s).owRegs = s.owRegs := rfl
@[simp] theorem goto_fsValue (ph : Phase) (s : State) : (goto ph s).fsValue = s.fsValue := rfl
@[simp] theorem goto_cmpCfg (ph : Phase) (s : State) : (goto ph s).cmpCfg = s.cmpCfg := rfl
@[simp] theorem goto_cmpRegs (ph : Phase) (s : State) : (goto ph s).cmpRegs = s.cmpRegs := rfl
@[simp] theorem goto_seq (ph : Phase) (s : State) : (goto ph s).seq = { s.seq with phase := ph } := rfl
@[simp] theorem goto_ow (ph : Phase) (s : State) : (goto ph s).ow = s.ow := rfl
@[simp] theorem goto_cmp (ph : Phase) (s : State) : (goto ph s).cmp = s.cmp := rfl
@[simp] theorem goto_fs (ph : Phase) (s : State) : (goto ph s).fs = s.fs := rfl
@[simp] theorem goto_ports (ph : Phase) (s : State) : (goto ph s).ports = s.ports := rfl
@[simp] theorem goto_reply (ph : Phase) (s : State) : (goto ph s).reply = s.reply := rfl
@[simp] theorem goto_inbox (ph : Phase) (s : State) : (goto ph s).inbox = s.inbox := rfl
@[simp] theorem goto_draws (ph : Phase) (s : State) : (goto ph s).draws = s.draws := rfl

@[simp] theorem gotoAt_status (ph : Phase) (k : Nat) (s : State) : (gotoAt ph k s).status = s.status := rfl
@[simp] theorem gotoAt_intEn (ph : Phase) (k : Nat) (s : State) : (gotoAt ph k s).intEn = s.intEn := rfl
@[simp] theorem gotoAt_line (ph : Phase) (k : Nat) (s : State) : (gotoAt ph k s).line = s.line := rfl
@[simp] theorem gotoAt_lineElapsed (ph : Phase) (k : Nat) (s : State) : (gotoAt ph k s).lineElapsed = s.lineElapsed := rfl
@[simp] theorem gotoAt_owRegs (ph : Phase) (k : Nat) (s : State) : (gotoAt ph k s).owRegs = s.owRegs := rfl
@[simp] theorem gotoAt_fsValue (ph : Phase) (k : Nat) (s : State) : (gotoAt ph k s).fsValue = s.fsValue := rfl
@[simp] theorem gotoAt_cmpCfg (ph : Phase) (k : Nat) (s : State) : (gotoAt ph k s).cmpCfg = s.cmpCfg := rfl
@[simp] theorem gotoAt_cmpRegs (ph : Phase) (k : Nat) (s : State) : (gotoAt ph k s).cmpRegs = s.cmpRegs := rfl
@[simp] theorem gotoAt_seq (ph : Phase) (k : Nat) (s : State) : (gotoAt ph k s).seq = { s.seq with phase := ph, k := k } := rfl
@[simp] theorem gotoAt_ow (ph : Phase) (k : Nat) (s : State) : (gotoAt ph k s).ow = s.ow := rfl
@[simp] theorem gotoAt_cmp (ph : Phase) (k : Nat) (s : State) : (gotoAt ph k s).cmp = s.cmp := rfl
@[simp] theorem gotoAt_fs (ph : Phase) (k : Nat) (s : State) : (gotoAt ph k s).fs = s.fs := rfl
@[simp] theorem gotoAt_ports (ph : Phase) (k : Nat) (s : State) : (gotoAt ph k s).ports = s.ports := rfl
@[simp] theorem gotoAt_reply (ph : Phase) (k : Nat) (s : State) : (gotoAt ph k s).reply = s.reply := rfl
@[simp] theorem gotoAt_inbox (ph : Phase) (k : Nat) (s : State) : (gotoAt ph k s).inbox = s.inbox := rfl
@[simp] theorem gotoAt_draws (ph : Phase) (k : Nat) (s : State) : (gotoAt ph k s).draws = s.draws := rfl

@[simp] theorem issueBus_status (r : BusReq) (ph : Phase) (s : State) : (issueBus r ph s).status = s.status := rfl
@[simp] theorem issueBus_intEn (r : BusReq) (ph : Phase) (s : State) : (issueBus r ph s).intEn = s.intEn := rfl
@[simp] theorem issueBus_line (r : BusReq) (ph : Phase) (s : State) : (issueBus r ph s).line = s.line := rfl
@[simp] theorem issueBus_lineElapsed (r : BusReq) (ph : Phase) (s : State) : (issueBus r ph s).lineElapsed = s.lineElapsed := rfl
@[simp] theorem issueBus_owRegs (r : BusReq) (ph : Phase) (s : State) : (issueBus r ph s).owRegs = s.owRegs := rfl
@[simp] theorem issueBus_fsValue (r : BusReq) (ph : Phase) (s : State) : (issueBus r ph s).fsValue = s.fsValue := rfl
@[simp] theorem issueBus_cmpCfg (r : BusReq) (ph : Phase) (s : State) : (issueBus r ph s).cmpCfg = s.cmpCfg := rfl
@[simp] theorem issueBus_cmpRegs (r : BusReq) (ph : Phase) (s : State) : (issueBus r ph s).cmpRegs = s.cmpRegs := rfl
@[simp] theorem issueBus_seq (r : BusReq) (ph : Phase) (s : State) : (issueBus r ph s).seq = { s.seq with phase := ph } := rfl
@[simp] theorem issueBus_ow (r : BusReq) (ph : Phase) (s : State) : (issueBus r ph s).ow = s.ow := rfl
@[simp] theorem issueBus_cmp (r : BusReq) (ph : Phase) (s : State) : (issueBus r ph s).cmp = s.cmp := rfl
@[simp] theorem issueBus_fs (r : BusReq) (ph : Phase) (s : State) : (issueBus r ph s).fs = s.fs := rfl
@[simp] theorem issueBus_ports (r : BusReq) (ph : Phase) (s : State) : (issueBus r ph s).ports = { s.ports with pending := .bus r } := rfl
@[simp] theorem issueBus_reply (r : BusReq) (ph : Phase) (s : State) : (issueBus r ph s).reply = s.reply := rfl
@[simp] theorem issueBus_inbox (r : BusReq) (ph : Phase) (s : State) : (issueBus r ph s).inbox = s.inbox := rfl
@[simp] theorem issueBus_draws (r : BusReq) (ph : Phase) (s : State) : (issueBus r ph s).draws = s.draws := rfl

@[simp] theorem issueSer_status (r : SerReq) (ph : Phase) (s : State) : (issueSer r ph s).status = s.status := rfl
@[simp] theorem issueSer_intEn (r : SerReq) (ph : Phase) (s : State) : (issueSer r ph s).intEn = s.intEn := rfl
@[simp] theorem issueSer_line (r : SerReq) (ph : Phase) (s : State) : (issueSer r ph s).line = s.line := rfl
@[simp] theorem issueSer_lineElapsed (r : SerReq) (ph : Phase) (s : State) : (issueSer r ph s).lineElapsed = s.lineElapsed := rfl
@[simp] theorem issueSer_owRegs (r : SerReq) (ph : Phase) (s : State) : (issueSer r ph s).owRegs = s.owRegs := rfl
@[simp] theorem issueSer_fsValue (r : SerReq) (ph : Phase) (s : State) : (issueSer r ph s).fsValue = s.fsValue := rfl
@[simp] theorem issueSer_cmpCfg (r : SerReq) (ph : Phase) (s : State) : (issueSer r ph s).cmpCfg = s.cmpCfg := rfl
@[simp] theorem issueSer_cmpRegs (r : SerReq) (ph : Phase) (s : State) : (issueSer r ph s).cmpRegs = s.cmpRegs := rfl
@[simp] theorem issueSer_seq (r : SerReq) (ph : Phase) (s : State) : (issueSer r ph s).seq = { s.seq with phase := ph } := rfl
@[simp] theorem issueSer_ow (r : SerReq) (ph : Phase) (s : State) : (issueSer r ph s).ow = s.ow := rfl
@[simp] theorem issueSer_cmp (r : SerReq) (ph : Phase) (s : State) : (issueSer r ph s).cmp = s.cmp := rfl
@[simp] theorem issueSer_fs (r : SerReq) (ph : Phase) (s : State) : (issueSer r ph s).fs = s.fs := rfl
@[simp] theorem issueSer_ports (r : SerReq) (ph : Phase) (s : State) : (issueSer r ph s).ports = { s.ports with pending := .ser r } := rfl
@[simp] theorem issueSer_reply (r : SerReq) (ph : Phase) (s : State) : (issueSer r ph s).reply = s.reply := rfl
@[simp] theorem issueSer_inbox (r : SerReq) (ph : Phase) (s : State) : (issueSer r ph s).inbox = s.inbox := rfl
@[simp] theorem issueSer_draws (r : SerReq) (ph : Phase) (s : State) : (issueSer r ph s).draws = s.draws := rfl

@[simp] theorem latchSample_status (l : Bool) (s : State) : (latchSample l s).status = s.status := rfl
@[simp] theorem latchSample_intEn (l : Bool) (s : State) : (latchSample l s).intEn = s.intEn := rfl
@[simp] theorem latchSample_line (l : Bool) (s : State) : (latchSample l s).line = { s.line with sync1 := l, sync2 := l } := rfl
@[simp] theorem latchSample_lineElapsed (l : Bool) (s : State) : (latchSample l s).lineElapsed = s.lineElapsed := rfl
@[simp] theorem latchSample_owRegs (l : Bool) (s : State) : (latchSample l s).owRegs = s.owRegs := rfl
@[simp] theorem latchSample_fsValue (l : Bool) (s : State) : (latchSample l s).fsValue = s.fsValue := rfl
@[simp] theorem latchSample_cmpCfg (l : Bool) (s : State) : (latchSample l s).cmpCfg = s.cmpCfg := rfl
@[simp] theorem latchSample_cmpRegs (l : Bool) (s : State) : (latchSample l s).cmpRegs = s.cmpRegs := rfl
@[simp] theorem latchSample_seq (l : Bool) (s : State) : (latchSample l s).seq = s.seq := rfl
@[simp] theorem latchSample_ow (l : Bool) (s : State) : (latchSample l s).ow = s.ow := rfl
@[simp] theorem latchSample_cmp (l : Bool) (s : State) : (latchSample l s).cmp = s.cmp := rfl
@[simp] theorem latchSample_fs (l : Bool) (s : State) : (latchSample l s).fs = s.fs := rfl
@[simp] theorem latchSample_ports (l : Bool) (s : State) : (latchSample l s).ports = s.ports := rfl
@[simp] theorem latchSample_reply (l : Bool) (s : State) : (latchSample l s).reply = s.reply := rfl
@[simp] theorem latchSample_inbox (l : Bool) (s : State) : (latchSample l s).inbox = s.inbox := rfl
@[simp] theorem latchSample_draws (l : Bool) (s : State) : (latchSample l s).draws = s.draws := rfl

@[simp] theorem setDirection_status (m : Bool) (s : State) : (setDirection m s).status = s.status := rfl
@[simp] theorem setDirection_intEn (m : Bool) (s : State) : (setDirection m s).intEn = s.intEn := rfl
@[simp] theorem setDirection_line (m : Bool) (s : State) : (setDirection m s).line = { s.line with mode := m } := rfl
@[simp] theorem setDirection_lineElapsed (m : Bool) (s : State) : (setDirection m s).lineElapsed = s.lineElapsed := rfl
@[simp] theorem setDirection_owRegs (m : Bool) (s : State) : (setDirection m s).owRegs = s.owRegs := rfl
@[simp] theorem setDirection_fsValue (m : Bool) (s : State) : (setDirection m s).fsValue = s.fsValue := rfl
@[simp] theorem setDirection_cmpCfg (m : Bool) (s : State) : (setDirection m s).cmpCfg = s.cmpCfg := rfl
@[simp] theorem setDirection_cmpRegs (m : Bool) (s : State) : (setDirection m s).cmpRegs = s.cmpRegs := rfl
@[simp] theorem setDirection_seq (m : Bool) (s : State) : (setDirection m s).seq = s.seq := rfl
@[simp] theorem setDirection_ow (m : Bool) (s : State) : (setDirection m s).ow = s.ow := rfl
@[simp] theorem setDirection_cmp (m : Bool) (s : State) : (setDirection m s).cmp = s.cmp := rfl
@[simp] theorem setDirection_fs (m : Bool) (s : State) : (setDirection m s).fs = s.fs := rfl
@[simp] theorem setDirection_ports (m : Bool) (s : State) : (setDirection m s).ports = s.ports := rfl
@[simp] theorem setDirection_reply (m : Bool) (s : State) : (setDirection m s).reply = s.reply := rfl
@[simp] theorem setDirection_inbox (m : Bool) (s : State) : (setDirection m s).inbox = s.inbox := rfl
@[simp] theorem setDirection_draws (m : Bool) (s : State) : (setDirection m s).draws = s.draws := rfl

@[simp] theorem writeLevel_status (l : Bool) (s : State) : (writeLevel l s).status = s.status := rfl
@[simp] theorem writeLevel_intEn (l : Bool) (s : State) : (writeLevel l s).intEn = s.intEn := rfl
@[simp] theorem writeLevel_line (l : Bool) (s : State) : (writeLevel l s).line = { s.line with out := l } := rfl
@[simp] theorem writeLevel_lineElapsed (l : Bool) (s : State) : (writeLevel l s).lineElapsed = s.lineElapsed := rfl
@[simp] theorem writeLevel_owRegs (l : Bool) (s : State) : (writeLevel l s).owRegs = s.owRegs := rfl
@[simp] theorem writeLevel_fsValue (l : Bool) (s : State) : (writeLevel l s).fsValue = s.fsValue := rfl
@[simp] theorem writeLevel_cmpCfg (l : Bool) (s : State) : (writeLevel l s).cmpCfg = s.cmpCfg := rfl
@[simp] theorem writeLevel_cmpRegs (l : Bool) (s : State) : (writeLevel l s).cmpRegs = s.cmpRegs := rfl
@[simp] theorem writeLevel_seq (l : Bool) (s : State) : (writeLevel l s).seq = s.seq := rfl
@[simp] theorem writeLevel_ow (l : Bool) (s : State) : (writeLevel l s).ow = s.ow := rfl
@[simp] theorem writeLevel_cmp (l : Bool) (s : State) : (writeLevel l s).cmp = s.cmp := rfl
@[simp] theorem writeLevel_fs (l : Bool) (s : State) : (writeLevel l s).fs = s.fs := rfl
@[simp] theorem writeLevel_ports (l : Bool) (s : State) : (writeLevel l s).ports = s.ports := rfl
@[simp] theorem writeLevel_reply (l : Bool) (s : State) : (writeLevel l s).reply = s.reply := rfl
@[simp] theorem writeLevel_inbox (l : Bool) (s : State) : (writeLevel l s).inbox = s.inbox := rfl
@[simp] theorem writeLevel_draws (l : Bool) (s : State) : (writeLevel l s).draws = s.draws := rfl

@[simp] theorem countOn_status (s : State) : (countOn s).status = s.status := rfl
@[simp] theorem countOn_intEn (s : State) : (countOn s).intEn = s.intEn := rfl
@[simp] theorem countOn_line (s : State) : (countOn s).line = s.line := rfl
@[simp] theorem countOn_lineElapsed (s : State) : (countOn s).lineElapsed = s.lineElapsed := rfl
@[simp] theorem countOn_owRegs (s : State) : (countOn s).owRegs = s.owRegs := rfl
@[simp] theorem countOn_fsValue (s : State) : (countOn s).fsValue = s.fsValue := rfl
@[simp] theorem countOn_cmpCfg (s : State) : (countOn s).cmpCfg = s.cmpCfg := rfl
@[simp] theorem countOn_cmpRegs (s : State) : (countOn s).cmpRegs = s.cmpRegs := rfl
@[simp] theorem countOn_seq (s : State) : (countOn s).seq = { s.seq with k := s.seq.k + 1 } := rfl
@[simp] theorem countOn_ow (s : State) : (countOn s).ow = s.ow := rfl
@[simp] theorem countOn_cmp (s : State) : (countOn s).cmp = s.cmp := rfl
@[simp] theorem countOn_fs (s : State) : (countOn s).fs = s.fs := rfl
@[simp] theorem countOn_ports (s : State) : (countOn s).ports = s.ports := rfl
@[simp] theorem countOn_reply (s : State) : (countOn s).reply = s.reply := rfl
@[simp] theorem countOn_inbox (s : State) : (countOn s).inbox = s.inbox := rfl
@[simp] theorem countOn_draws (s : State) : (countOn s).draws = s.draws := rfl

@[simp] theorem enterWait_status (ph : OwPhase) (s : State) : (enterWait ph s).status = s.status := rfl
@[simp] theorem enterWait_intEn (ph : OwPhase) (s : State) : (enterWait ph s).intEn = s.intEn := rfl
@[simp] theorem enterWait_line (ph : OwPhase) (s : State) : (enterWait ph s).line = s.line := rfl
@[simp] theorem enterWait_lineElapsed (ph : OwPhase) (s : State) : (enterWait ph s).lineElapsed = s.lineElapsed := rfl
@[simp] theorem enterWait_owRegs (ph : OwPhase) (s : State) : (enterWait ph s).owRegs = s.owRegs := rfl
@[simp] theorem enterWait_fsValue (ph : OwPhase) (s : State) : (enterWait ph s).fsValue = s.fsValue := rfl
@[simp] theorem enterWait_cmpCfg (ph : OwPhase) (s : State) : (enterWait ph s).cmpCfg = s.cmpCfg := rfl
@[simp] theorem enterWait_cmpRegs (ph : OwPhase) (s : State) : (enterWait ph s).cmpRegs = s.cmpRegs := rfl
@[simp] theorem enterWait_seq (ph : OwPhase) (s : State) : (enterWait ph s).seq = { s.seq with phase := .ow ph, k := 1 } := rfl
@[simp] theorem enterWait_ow (ph : OwPhase) (s : State) : (enterWait ph s).ow = s.ow := rfl
@[simp] theorem enterWait_cmp (ph : OwPhase) (s : State) : (enterWait ph s).cmp = s.cmp := rfl
@[simp] theorem enterWait_fs (ph : OwPhase) (s : State) : (enterWait ph s).fs = s.fs := rfl
@[simp] theorem enterWait_ports (ph : OwPhase) (s : State) : (enterWait ph s).ports = s.ports := rfl
@[simp] theorem enterWait_reply (ph : OwPhase) (s : State) : (enterWait ph s).reply = s.reply := rfl
@[simp] theorem enterWait_inbox (ph : OwPhase) (s : State) : (enterWait ph s).inbox = s.inbox := rfl
@[simp] theorem enterWait_draws (ph : OwPhase) (s : State) : (enterWait ph s).draws = s.draws := rfl

@[simp] theorem releaseLine_status (s : State) : (releaseLine s).status = s.status := rfl
@[simp] theorem releaseLine_intEn (s : State) : (releaseLine s).intEn = s.intEn := rfl
@[simp] theorem releaseLine_line (s : State) : (releaseLine s).line = { s.line with mode := false } := rfl
@[simp] theorem releaseLine_lineElapsed (s : State) : (releaseLine s).lineElapsed = s.lineElapsed := rfl
@[simp] theorem releaseLine_owRegs (s : State) : (releaseLine s).owRegs = s.owRegs := rfl
@[simp] theorem releaseLine_fsValue (s : State) : (releaseLine s).fsValue = s.fsValue := rfl
@[simp] theorem releaseLine_cmpCfg (s : State) : (releaseLine s).cmpCfg = s.cmpCfg := rfl
@[simp] theorem releaseLine_cmpRegs (s : State) : (releaseLine s).cmpRegs = s.cmpRegs := rfl
@[simp] theorem releaseLine_seq (s : State) : (releaseLine s).seq = { s.seq with phase := .ow .releaseHigh, k := 1 } := rfl
@[simp] theorem releaseLine_ow (s : State) : (releaseLine s).ow = s.ow := rfl
@[simp] theorem releaseLine_cmp (s : State) : (releaseLine s).cmp = s.cmp := rfl
@[simp] theorem releaseLine_fs (s : State) : (releaseLine s).fs = s.fs := rfl
@[simp] theorem releaseLine_ports (s : State) : (releaseLine s).ports = s.ports := rfl
@[simp] theorem releaseLine_reply (s : State) : (releaseLine s).reply = s.reply := rfl
@[simp] theorem releaseLine_inbox (s : State) : (releaseLine s).inbox = s.inbox := rfl
@[simp] theorem releaseLine_draws (s : State) : (releaseLine s).draws = s.draws := rfl

@[simp] theorem beginAttempt_status (s : State) : (beginAttempt s).status = s.status := rfl
@[simp] theorem beginAttempt_intEn (s : State) : (beginAttempt s).intEn = s.intEn := rfl
@[simp] theorem beginAttempt_line (s : State) : (beginAttempt s).line = { s.line with mode := true, out := false } := rfl
@[simp] theorem beginAttempt_lineElapsed (s : State) : (beginAttempt s).lineElapsed = s.lineElapsed := rfl
@[simp] theorem beginAttempt_owRegs (s : State) : (beginAttempt s).owRegs = s.owRegs := rfl
@[simp] theorem beginAttempt_fsValue (s : State) : (beginAttempt s).fsValue = s.fsValue := rfl
@[simp] theorem beginAttempt_cmpCfg (s : State) : (beginAttempt s).cmpCfg = s.cmpCfg := rfl
@[simp] theorem beginAttempt_cmpRegs (s : State) : (beginAttempt s).cmpRegs = s.cmpRegs := rfl
@[simp] theorem beginAttempt_seq (s : State) : (beginAttempt s).seq = { s.seq with phase := .ow .requestPulse, k := 0 } := rfl
@[simp] theorem beginAttempt_ow (s : State) : (beginAttempt s).ow = { s.ow with attempt := s.ow.attempt + 1, bitidx := 0, shreg := 0 } := rfl
@[simp] theorem beginAttempt_cmp (s : State) : (beginAttempt s).cmp = s.cmp := rfl
@[simp] theorem beginAttempt_fs (s : State) : (beginAttempt s).fs = s.fs := rfl
@[simp] theorem beginAttempt_ports (s : State) : (beginAttempt s).ports = s.ports := rfl
@[simp] theorem beginAttempt_reply (s : State) : (beginAttempt s).reply = s.reply := rfl
@[simp] theorem beginAttempt_inbox (s : State) : (beginAttempt s).inbox = s.inbox := rfl
@[simp] theorem beginAttempt_draws (s : State) : (beginAttempt s).draws = s.draws := rfl

@[simp] theorem serClose_status (s : State) : (serClose s).status = s.status := rfl
@[simp] theorem serClose_intEn (s : State) : (serClose s).intEn = s.intEn := rfl
@[simp] theorem serClose_line (s : State) : (serClose s).line = s.line := rfl
@[simp] theorem serClose_lineElapsed (s : State) : (serClose s).lineElapsed = s.lineElapsed := rfl
@[simp] theorem serClose_owRegs (s : State) : (serClose s).owRegs = s.owRegs := rfl
@[simp] theorem serClose_fsValue (s : State) : (serClose s).fsValue = s.fsValue := rfl
@[simp] theorem serClose_cmpCfg (s : State) : (serClose s).cmpCfg = s.cmpCfg := rfl
@[simp] theorem serClose_cmpRegs (s : State) : (serClose s).cmpRegs = s.cmpRegs := rfl
@[simp] theorem serClose_seq (s : State) : (serClose s).seq = s.seq := rfl
@[simp] theorem serClose_ow (s : State) : (serClose s).ow = s.ow := rfl
@[simp] theorem serClose_cmp (s : State) : (serClose s).cmp = s.cmp := rfl
@[simp] theorem serClose_fs (s : State) : (serClose s).fs = s.fs := rfl
@[simp] theorem serClose_ports (s : State) : (serClose s).ports = { s.ports with serOpen := false } := rfl
@[simp] theorem serClose_reply (s : State) : (serClose s).reply = s.reply := rfl
@[simp] theorem serClose_inbox (s : State) : (serClose s).inbox = s.inbox := rfl
@[simp] theorem serClose_draws (s : State) : (serClose s).draws = s.draws := rfl

@[simp] theorem cmpClose_status (c : ResultCode) (s : State) : (cmpClose c s).status = s.status := rfl
@[simp] theorem cmpClose_intEn (c : ResultCode) (s : State) : (cmpClose c s).intEn = s.intEn := rfl
@[simp] theorem cmpClose_line (c : ResultCode) (s : State) : (cmpClose c s).line = s.line := rfl
@[simp] theorem cmpClose_lineElapsed (c : ResultCode) (s : State) : (cmpClose c s).lineElapsed = s.lineElapsed := rfl
@[simp] theorem cmpClose_owRegs (c : ResultCode) (s : State) : (cmpClose c s).owRegs = s.owRegs := rfl
@[simp] theorem cmpClose_fsValue (c : ResultCode) (s : State) : (cmpClose c s).fsValue = s.fsValue := rfl
@[simp] theorem cmpClose_cmpCfg (c : ResultCode) (s : State) : (cmpClose c s).cmpCfg = s.cmpCfg := rfl
@[simp] theorem cmpClose_cmpRegs (c : ResultCode) (s : State) : (cmpClose c s).cmpRegs = s.cmpRegs := rfl
@[simp] theorem cmpClose_seq (c : ResultCode) (s : State) : (cmpClose c s).seq = { s.seq with phase := .cmpClose c } := rfl
@[simp] theorem cmpClose_ow (c : ResultCode) (s : State) : (cmpClose c s).ow = s.ow := rfl
@[simp] theorem cmpClose_cmp (c : ResultCode) (s : State) : (cmpClose c s).cmp = s.cmp := rfl
@[simp] theorem cmpClose_fs (c : ResultCode) (s : State) : (cmpClose c s).fs = s.fs := rfl
@[simp] theorem cmpClose_ports (c : ResultCode) (s : State) : (cmpClose c s).ports = { s.ports with pending := .bus .closeDev } := rfl
@[simp] theorem cmpClose_reply (c : ResultCode) (s : State) : (cmpClose c s).reply = s.reply := rfl
@[simp] theorem cmpClose_inbox (c : ResultCode) (s : State) : (cmpClose c s).inbox = s.inbox := rfl
@[simp] theorem cmpClose_draws (c : ResultCode) (s : State) : (cmpClose c s).draws = s.draws := rfl

@[simp] theorem cmpStoreCal_status (i : Nat) (bs : List Byte) (s : State) : (cmpStoreCal i bs s).status = s.status := rfl
@[simp] theorem cmpStoreCal_intEn (i : Nat) (bs : List Byte) (s : State) : (cmpStoreCal i bs s).intEn = s.intEn := rfl
@[simp] theorem cmpStoreCal_line (i : Nat) (bs : List Byte) (s : State) : (cmpStoreCal i bs s).line = s.line := rfl
@[simp] theorem cmpStoreCal_lineElapsed (i : Nat) (bs : List Byte) (s : State) : (cmpStoreCal i bs s).lineElapsed = s.lineElapsed := rfl
@[simp] theorem cmpStoreCal_owRegs (i : Nat) (bs : List Byte) (s : State) : (cmpStoreCal i bs s).owRegs = s.owRegs := rfl
@[simp] theorem cmpStoreCal_fsValue (i : Nat) (bs : List Byte) (s : State) : (cmpStoreCal i bs s).fsValue = s.fsValue := rfl
@[simp] theorem cmpStoreCal_cmpCfg (i : Nat) (bs : List Byte) (s : State) : (cmpStoreCal i bs s).cmpCfg = s.cmpCfg := rfl
@[simp] theorem cmpStoreCal_cmpRegs (i : Nat) (bs : List Byte) (s : State) : (cmpStoreCal i bs s).cmpRegs = s.cmpRegs := rfl
@[simp] theorem cmpStoreCal_seq (i : Nat) (bs : List Byte) (s : State) : (cmpStoreCal i bs s).seq = s.seq := rfl
@[simp] theorem cmpStoreCal_ow (i : Nat) (bs : List Byte) (s : State) : (cmpStoreCal i bs s).ow = s.ow := rfl
@[simp] theorem cmpStoreCal_cmp (i : Nat) (bs : List Byte) (s : State) : (cmpStoreCal i bs s).cmp = { s.cmp with img := storeBytes s.cmp.img i bs } := rfl
@[simp] theorem cmpStoreCal_fs (i : Nat) (bs : List Byte) (s : State) : (cmpStoreCal i bs s).fs = s.fs := rfl
@[simp] theorem cmpStoreCal_ports (i : Nat) (bs : List Byte) (s : State) : (cmpStoreCal i bs s).ports = s.ports := rfl
@[simp] theorem cmpStoreCal_reply (i : Nat) (bs : List Byte) (s : State) : (cmpStoreCal i bs s).reply = s.reply := rfl
@[simp] theorem cmpStoreCal_inbox (i : Nat) (bs : List Byte) (s : State) : (cmpStoreCal i bs s).inbox = s.inbox := rfl
@[simp] theorem cmpStoreCal_draws (i : Nat) (bs : List Byte) (s : State) : (cmpStoreCal i bs s).draws = s.draws := rfl

@[simp] theorem cmpPack_status (s : State) : (cmpPack s).status = s.status := rfl
@[simp] theorem cmpPack_intEn (s : State) : (cmpPack s).intEn = s.intEn := rfl
@[simp] theorem cmpPack_line (s : State) : (cmpPack s).line = s.line := rfl
@[simp] theorem cmpPack_lineElapsed (s : State) : (cmpPack s).lineElapsed = s.lineElapsed := rfl
@[simp] theorem cmpPack_owRegs (s : State) : (cmpPack s).owRegs = s.owRegs := rfl
@[simp] theorem cmpPack_fsValue (s : State) : (cmpPack s).fsValue = s.fsValue := rfl
@[simp] theorem cmpPack_cmpCfg (s : State) : (cmpPack s).cmpCfg = s.cmpCfg := rfl
@[simp] theorem cmpPack_cmpRegs (s : State) : (cmpPack s).cmpRegs = s.cmpRegs := rfl
@[simp] theorem cmpPack_seq (s : State) : (cmpPack s).seq = s.seq := rfl
@[simp] theorem cmpPack_ow (s : State) : (cmpPack s).ow = s.ow := rfl
@[simp] theorem cmpPack_cmp (s : State) : (cmpPack s).cmp = { s.cmp with coef := packCoefficients s.cmp.img } := rfl
@[simp] theorem cmpPack_fs (s : State) : (cmpPack s).fs = s.fs := rfl
@[simp] theorem cmpPack_ports (s : State) : (cmpPack s).ports = s.ports := rfl
@[simp] theorem cmpPack_reply (s : State) : (cmpPack s).reply = s.reply := rfl
@[simp] theorem cmpPack_inbox (s : State) : (cmpPack s).inbox = s.inbox := rfl
@[simp] theorem cmpPack_draws (s : State) : (cmpPack s).draws = s.draws := rfl

@[simp] theorem cmpPoll_status (p : Params) (s : State) : (cmpPoll p s).status = s.status := rfl
@[simp] theorem cmpPoll_intEn (p : Params) (s : State) : (cmpPoll p s).intEn = s.intEn := rfl
@[simp] theorem cmpPoll_line (p : Params) (s : State) : (cmpPoll p s).line = s.line := rfl
@[simp] theorem cmpPoll_lineElapsed (p : Params) (s : State) : (cmpPoll p s).lineElapsed = s.lineElapsed := rfl
@[simp] theorem cmpPoll_owRegs (p : Params) (s : State) : (cmpPoll p s).owRegs = s.owRegs := rfl
@[simp] theorem cmpPoll_fsValue (p : Params) (s : State) : (cmpPoll p s).fsValue = s.fsValue := rfl
@[simp] theorem cmpPoll_cmpCfg (p : Params) (s : State) : (cmpPoll p s).cmpCfg = s.cmpCfg := rfl
@[simp] theorem cmpPoll_cmpRegs (p : Params) (s : State) : (cmpPoll p s).cmpRegs = s.cmpRegs := rfl
@[simp] theorem cmpPoll_seq (p : Params) (s : State) : (cmpPoll p s).seq = { s.seq with phase := .cmpStatus } := rfl
@[simp] theorem cmpPoll_ow (p : Params) (s : State) : (cmpPoll p s).ow = s.ow := rfl
@[simp] theorem cmpPoll_cmp (p : Params) (s : State) : (cmpPoll p s).cmp = { s.cmp with polls := s.cmp.polls + 1 } := rfl
@[simp] theorem cmpPoll_fs (p : Params) (s : State) : (cmpPoll p s).fs = s.fs := rfl
@[simp] theorem cmpPoll_ports (p : Params) (s : State) : (cmpPoll p s).ports = { s.ports with pending := .bus (.read1 p.cmpRegStatus) } := rfl
@[simp] theorem cmpPoll_reply (p : Params) (s : State) : (cmpPoll p s).reply = s.reply := rfl
@[simp] theorem cmpPoll_inbox (p : Params) (s : State) : (cmpPoll p s).inbox = s.inbox := rfl
@[simp] theorem cmpPoll_draws (p : Params) (s : State) : (cmpPoll p s).draws = s.draws := rfl

@[simp] theorem writeStatus_status (v : Word) (s : State) : (writeStatus v s).status = { s.status with done := s.status.done && !v.getLsbD 1, overrun := s.status.overrun && !v.getLsbD 2 } := rfl
@[simp] theorem writeStatus_intEn (v : Word) (s : State) : (writeStatus v s).intEn = s.intEn := rfl
@[simp] theorem writeStatus_line (v : Word) (s : State) : (writeStatus v s).line = s.line := rfl
@[simp] theorem writeStatus_lineElapsed (v : Word) (s : State) : (writeStatus v s).lineElapsed = s.lineElapsed := rfl
@[simp] theorem writeStatus_owRegs (v : Word) (s : State) : (writeStatus v s).owRegs = s.owRegs := rfl
@[simp] theorem writeStatus_fsValue (v : Word) (s : State) : (writeStatus v s).fsValue = s.fsValue := rfl
@[simp] theorem writeStatus_cmpCfg (v : Word) (s : State) : (writeStatus v s).cmpCfg = s.cmpCfg := rfl
@[simp] theorem writeStatus_cmpRegs (v : Word) (s : State) : (writeStatus v s).cmpRegs = s.cmpRegs := rfl
@[simp] theorem writeStatus_seq (v : Word) (s : State) : (writeStatus v s).seq = s.seq := rfl
@[simp] theorem writeStatus_ow (v : Word) (s : State) : (writeStatus v s).ow = s.ow := rfl
@[simp] theorem writeStatus_cmp (v : Word) (s : State) : (writeStatus v s).cmp = s.cmp := rfl
@[simp] theorem writeStatus_fs (v : Word) (s : State) : (writeStatus v s).fs = s.fs := rfl
@[simp] theorem writeStatus_ports (v : Word) (s : State) : (writeStatus v s).ports = s.ports := rfl
@[simp] theorem writeStatus_reply (v : Word) (s : State) : (writeStatus v s).reply = s.reply := rfl
@[simp] theorem writeStatus_inbox (v : Word) (s : State) : (writeStatus v s).inbox = s.inbox := rfl
@[simp] theorem writeStatus_draws (v : Word) (s : State) : (writeStatus v s).draws = s.draws := rfl

@[simp] theorem writeIntEn_status (v : Word) (s : State) : (writeIntEn v s).status = s.status := rfl
@[simp] theorem writeIntEn_intEn (v : Word) (s : State) : (writeIntEn v s).intEn = { doneIe := v.getLsbD 0, ovrIe := v.getLsbD 1 } := rfl
@[simp] theorem writeIntEn_line (v : Word) (s : State) : (writeIntEn v s).line = s.line := rfl
@[simp] theorem writeIntEn_lineElapsed (v : Word) (s : State) : (writeIntEn v s).lineElapsed = s.lineElapsed := rfl
@[simp] theorem writeIntEn_owRegs (v : Word) (s : State) : (writeIntEn v s).owRegs = s.owRegs := rfl
@[simp] theorem writeIntEn_fsValue (v : Word) (s : State) : (writeIntEn v s).fsValue = s.fsValue := rfl
@[simp] theorem writeIntEn_cmpCfg (v : Word) (s : State) : (writeIntEn v s).cmpCfg = s.cmpCfg := rfl
@[simp] theorem writeIntEn_cmpRegs (v : Word) (s : State) : (writeIntEn v s).cmpRegs = s.cmpRegs := rfl
@[simp] theorem writeIntEn_seq (v : Word) (s : State) : (writeIntEn v s).seq = s.seq := rfl
@[simp] theorem writeIntEn_ow (v : Word) (s : State) : (writeIntEn v s).ow = s.ow := rfl
@[simp] theorem writeIntEn_cmp (v : Word) (s : State) : (writeIntEn v s).cmp = s.cmp := rfl
@[simp] theorem writeIntEn_fs (v : Word) (s : State) : (writeIntEn v s).fs = s.fs := rfl
@[simp] theorem writeIntEn_ports (v : Word) (s : State) : (writeIntEn v s).ports = s.ports := rfl
@[simp] theorem writeIntEn_reply (v : Word) (s : State) : (writeIntEn v s).reply = s.reply := rfl
@[simp] theorem writeIntEn_inbox (v : Word) (s : State) : (writeIntEn v s).inbox = s.inbox := rfl
@[simp] theorem writeIntEn_draws (v : Word) (s : State) : (writeIntEn v s).draws = s.draws := rfl

@[simp] theorem writeCmpCfg_status (v : Word) (s : State) : (writeCmpCfg v s).status = s.status := rfl
@[simp] theorem writeCmpCfg_intEn (v : Word) (s : State) : (writeCmpCfg v s).intEn = s.intEn := rfl
@[simp] theorem writeCmpCfg_line (v : Word) (s : State) : (writeCmpCfg v s).line = s.line := rfl
@[simp] theorem writeCmpCfg_lineElapsed (v : Word) (s : State) : (writeCmpCfg v s).lineElapsed = s.lineElapsed := rfl
@[simp] theorem writeCmpCfg_owRegs (v : Word) (s : State) : (writeCmpCfg v s).owRegs = s.owRegs := rfl
@[simp] theorem writeCmpCfg_fsValue (v : Word) (s : State) : (writeCmpCfg v s).fsValue = s.fsValue := rfl
@[simp] theorem writeCmpCfg_cmpCfg (v : Word) (s : State) : (writeCmpCfg v s).cmpCfg = v.setWidth 15 &&& cfgMask := rfl
@[simp] theorem writeCmpCfg_cmpRegs (v : Word) (s : State) : (writeCmpCfg v s).cmpRegs = s.cmpRegs := rfl
@[simp] theorem writeCmpCfg_seq (v : Word) (s : State) : (writeCmpCfg v s).seq = s.seq := rfl
@[simp] theorem writeCmpCfg_ow (v : Word) (s : State) : (writeCmpCfg v s).ow = s.ow := rfl
@[simp] theorem writeCmpCfg_cmp (v : Word) (s : State) : (writeCmpCfg v s).cmp = s.cmp := rfl
@[simp] theorem writeCmpCfg_fs (v : Word) (s : State) : (writeCmpCfg v s).fs = s.fs := rfl
@[simp] theorem writeCmpCfg_ports (v : Word) (s : State) : (writeCmpCfg v s).ports = s.ports := rfl
@[simp] theorem writeCmpCfg_reply (v : Word) (s : State) : (writeCmpCfg v s).reply = s.reply := rfl
@[simp] theorem writeCmpCfg_inbox (v : Word) (s : State) : (writeCmpCfg v s).inbox = s.inbox := rfl
@[simp] theorem writeCmpCfg_draws (v : Word) (s : State) : (writeCmpCfg v s).draws = s.draws := rfl

end Sys2Proof.Machine
end

