-- ==== Sys2Proof/Laws/Ops.lean ====
section
/-! SUPPORT. For each shared operation, one lemma that says what it can do, to be cited instead of unfolding it. -/

namespace Sys2Proof.Machine

open Sys2Proof

/-! ### Acceptance, rejection, delays, waits -/

theorem accept_of_busy {opc : BitVec 8} {start : State → State} {s : State} (h : s.status.busy = true) :
    accept opc start s = setOverrun s := by simp [accept, h]

theorem accept_of_idle {opc : BitVec 8} {start : State → State} {s : State} (h : s.status.busy = false) :
    accept opc start s =
      start { s with status := { s.status with lastOp := opc, done := false, result := .ok, busy := true } } := by
  simp [accept, h]

theorem rejectCommand_of_busy {v : Word} {s : State} (h : s.status.busy = true) :
    rejectCommand v s = setOverrun s := by simp [rejectCommand, h]

theorem rejectCommand_of_idle {v : Word} {s : State} (h : s.status.busy = false) :
    rejectCommand v s = { s with status := { s.status with lastOp := opcOf v, result := .badCommand, done := true } } := by
  simp [rejectCommand, h]

/-- Every command always completes its own event: `exec` answers a next state. -/
theorem exec_next (i : Instr) (s : State) : ∃ t, exec i s = .next t := by
  cases i <;> exact ⟨_, rfl⟩

/-- While BUSY every command is dropped with OVERRUN. -/
theorem exec_of_busy {i : Instr} {s : State} (h : s.status.busy = true) : exec i s = .next (setOverrun s) := by
  cases i <;> simp only [exec, execOwRead, execFsRead, execCmpRead, execLineWait, accept_of_busy h]

/-- A tick of a delay either ends it, and the delay's continuation happens, or only counts. -/
theorem delayTick_cases (n : Nat) (next : State → State) (s : State) :
    (n ≤ s.seq.k + 1 ∧ delayTick n next s = next { s with seq := { s.seq with k := s.seq.k + 1 } }) ∨
    (s.seq.k + 1 < n ∧ delayTick n next s = { s with seq := { s.seq with k := s.seq.k + 1 } }) := by
  unfold delayTick
  split
  · exact .inl ⟨‹_›, rfl⟩
  · exact .inr ⟨by omega, rfl⟩

/-- The three outcomes of one evaluation of a wait, with when each happens. -/
theorem waitEval_cases (level : Bool) (limit k : Nat) (sample : Bool) :
    (sample = level ∧ waitEval level limit k sample = .ok k) ∨
    (sample ≠ level ∧ limit ≤ k ∧ waitEval level limit k sample = .timeout) ∨
    (sample ≠ level ∧ k < limit ∧ waitEval level limit k sample = .more) := by
  unfold waitEval
  split
  · exact .inl ⟨‹_›, rfl⟩
  · split
    · exact .inr (.inl ⟨‹_›, ‹_›, rfl⟩)
    · exact .inr (.inr ⟨‹_›, by omega, rfl⟩)

/-- A failed attempt ends the command if it was the last one, and starts the back-off otherwise. -/
theorem failAttempt_cases (p : Params) (reason : ResultCode) (fp : OwPhase) (fb : BitVec 6) (s : State) :
    (s.ow.attempt.toNat = p.owAttempts ∧
      failAttempt p reason fp fb s = owExhaust { s with ow := { s.ow with fr := reason, fp := fp, fb := fb } }) ∨
    (s.ow.attempt.toNat ≠ p.owAttempts ∧
      failAttempt p reason fp fb s =
        gotoAt (.ow .backoff) 0 { s with ow := { s.ow with fr := reason, fp := fp, fb := fb } }) := by
  unfold failAttempt
  by_cases h : s.ow.attempt.toNat = p.owAttempts
  · exact .inl ⟨h, by simp [h]⟩
  · exact .inr ⟨h, by simp [h]⟩

/-! ### Arithmetic -/

/-- The wrap stays in the signed range of its width. -/
theorem wrap_range (n : Nat) (x : Int) : -(2 ^ n : Int) ≤ wrap (n + 1) x ∧ wrap (n + 1) x < 2 ^ n := by
  unfold wrap
  have h1 := @Int.le_bmod x (2 ^ (n + 1)) (by positivity)
  have h2 := @Int.bmod_lt x (2 ^ (n + 1)) (by positivity)
  have h3 : (2 ^ (n + 1) : Nat) = 2 * 2 ^ n := by ring
  have h4 : ((2 ^ n : Nat) : Int) = 2 ^ n := by push_cast; rfl
  rw [← h4]
  rw [h3] at h1 h2 ⊢
  constructor <;> omega

/-- A number in the signed 32-bit range survives storing and reading back. -/
theorem sext_u32 {x : Int} (h1 : -(2 ^ 31) ≤ x) (h2 : x < 2 ^ 31) : sext (u32 x) = x := by
  unfold sext u32
  rw [BitVec.toInt_ofInt]
  apply Int.bmod_eq_of_le <;> omega

/-- The wrap leaves a number of its range alone. -/
theorem wrap_of_range {n : Nat} {x : Int} (h1 : -(2 ^ n : Int) ≤ x) (h2 : x < 2 ^ n) : wrap (n + 1) x = x := by
  unfold wrap
  have h3 : (2 ^ (n + 1) : Nat) = 2 * 2 ^ n := by ring
  have h4 : ((2 ^ n : Nat) : Int) = 2 ^ n := by push_cast; rfl
  rw [← h4] at h1 h2
  rw [h3]
  apply Int.bmod_eq_of_le <;> omega

theorem compTFine_range (c : Coeffs) (adcT : Int) : -(2 ^ 31) ≤ compTFine c adcT ∧ compTFine c adcT < 2 ^ 31 :=
  wrap_range 31 _

theorem clampHum_range (h : Int) : 0 ≤ clampHum h ∧ clampHum h ≤ 100000 := by
  unfold clampHum; omega

/-! ### Bytes and bits -/

/-- What each byte is after a store of `bytes` at `k`. -/
theorem storeBytes_getElem {n : Nat} (bytes : List Byte) (v : Vector Byte n) (k i : Nat) (hi : i < n) :
    (storeBytes v k bytes)[i] = if h : k ≤ i ∧ i - k < bytes.length then bytes[i - k]'h.2 else v[i] := by
  induction bytes generalizing v k with
  | nil => simp [storeBytes]
  | cons b bs ih =>
    simp only [storeBytes, ih]
    rw [Vector.getElem_setIfInBounds]
    rcases Nat.lt_trichotomy i k with h | h | h
    · have h1 : ¬ k + 1 ≤ i := by omega
      have h2 : ¬ k ≤ i := by omega
      have h3 : ¬ k = i := by omega
      simp [h1, h2, h3]
    · subst h
      simp
    · obtain ⟨d, rfl⟩ : ∃ d, i = k + 1 + d := ⟨i - (k + 1), by omega⟩
      have h3 : ¬ k = k + 1 + d := by omega
      have h4 : k + 1 + d - (k + 1) = d := by omega
      have h5 : k + 1 + d - k = d + 1 := by omega
      have h6 : k ≤ k + 1 + d := by omega
      simp [h3, h4, h5, h6]

/-- A store of as many bytes as the vector holds leaves nothing of what it held. -/
theorem storeBytes_whole {n : Nat} (bytes : List Byte) (v w : Vector Byte n) (h : bytes.length = n) :
    storeBytes v 0 bytes = storeBytes w 0 bytes := by
  apply Vector.ext
  intro i hi
  simp [storeBytes_getElem, h, hi]

/-- A frame bit set reads back, and every other frame bit is as before. -/
theorem frameBit_setFrameBit (sh : BitVec 40) (i j : Nat) (b : Bool) (hi : i < 40) (hj : j < 40) :
    frameBit (setFrameBit sh i b) j = if j = i then b else frameBit sh j := by
  unfold frameBit setFrameBit
  have h : (39 - j = 39 - i) ↔ j = i := by omega
  cases b
  · simp only [Bool.false_eq_true, if_false, BitVec.getLsbD_and, BitVec.getLsbD_not, BitVec.getLsbD_shiftLeft,
      BitVec.getLsbD_one]
    by_cases hji : j = i
    · subst hji
      have h1 : 39 - j < 40 := by omega
      simp [h1]
    · have h1 : 39 - j < 40 := by omega
      by_cases h2 : 39 - j < 39 - i
      · simp [hji, h1, h2]
      · have h3 : ¬ 39 - j - (39 - i) = 0 := by omega
        simp [hji, h1, h2, h3]
  · simp only [if_true, BitVec.getLsbD_or, BitVec.getLsbD_shiftLeft, BitVec.getLsbD_one]
    by_cases hji : j = i
    · subst hji
      have h1 : 39 - j < 40 := by omega
      simp [h1]
    · have h1 : 39 - j < 40 := by omega
      by_cases h2 : 39 - j < 39 - i
      · simp [hji, h1, h2]
      · have h3 : ¬ 39 - j - (39 - i) = 0 := by omega
        simp [hji, h1, h2, h3]

/-! ### The host window and events -/

@[simp] theorem regAt_offset (r : Reg) : regAt r.offset = some r := by cases r <;> decide

@[simp] theorem accessError_offset (r : Reg) : accessError .word r.offset = none := by cases r <;> decide

theorem handleEvent_WR (p : Params) (r : Reg) (v : Word) (s : State) :
    handleEvent p (WR r v) s = writeReg r v { s with reply := .done } := by
  simp [handleEvent, WR, hostWrite]

theorem handleEvent_RD (p : Params) (r : Reg) (s : State) :
    handleEvent p (RD r) s = .next { s with reply := .data (regWord r s) } := by
  simp [handleEvent, RD, hostRead, hrwWord]

theorem handleEvent_tick (p : Params) (e : Bool) (s : State) : handleEvent p (.tick e) s = .next (tick p e s) := rfl

theorem handleEvent_busDone {p : Params} {s : State} {r : BusReq} (h : s.ports.pending = .bus r) (ok : Bool)
    (bytes : List Byte) : handleEvent p (.busDone ok bytes) s = .next (busDone p r ok bytes s) := by
  simp [handleEvent, h]

theorem handleEvent_serDone {p : Params} {s : State} {r : SerReq} (h : s.ports.pending = .ser r) (ok : Bool) (n : Nat) :
    handleEvent p (.serDone ok n) s = .next (serDone r ok n s) := by
  simp [handleEvent, h]

/-- A Tick samples the line first; then the unit of the active command acts on that sample. -/
theorem tick_of_idle {p : Params} {e : Bool} {s : State} (h : s.seq.active = .none) :
    tick p e s = latchSample (lineSample e s) s := by
  simp [tick, h]

theorem tick_of_ow {p : Params} {e : Bool} {s : State} (h : s.seq.active = .ow) :
    tick p e s = owTick p (lineSample e s) (latchSample (lineSample e s) s) := by
  simp [tick, h]

theorem tick_of_fs {p : Params} {e : Bool} {s : State} (h : s.seq.active = .fs) :
    tick p e s = fsTick p (latchSample (lineSample e s) s) := by
  simp [tick, h]

theorem tick_of_cmp {p : Params} {e : Bool} {s : State} (h : s.seq.active = .cmp) :
    tick p e s = cmpTick p (latchSample (lineSample e s) s) := by
  simp [tick, h]

theorem tick_of_lw {p : Params} {e : Bool} {s : State} (h : s.seq.active = .lw) :
    tick p e s = lwTick (lineSample e s) (latchSample (lineSample e s) s) := by
  simp [tick, h]

/-- An answered bus request is no longer pending, and CMP.READ goes on with whether it was good. -/
theorem busDone_of_cmp {p : Params} {r : BusReq} {ok : Bool} {bytes : List Byte} {s : State} (h : s.seq.active = .cmp) :
    busDone p r ok bytes s =
      cmpAnswer p (busGood r ok bytes) bytes { s with ports := { s.ports with
        pending := .none, busOpen := busOpenAfter r (busGood r ok bytes) s.ports.busOpen } } := by
  simp [busDone, h]

/-- Every write to a register answers a next state. -/
theorem writeReg_next (r : Reg) (v : Word) (s : State) : ∃ t, writeReg r v s = .next t := by
  cases r <;> first
    | exact ⟨_, rfl⟩
    | (simp only [writeReg, writeCmd]; split <;> first | exact exec_next _ _ | exact ⟨_, rfl⟩)

/-- Everything one event can do, where it answers a next state. -/
theorem handleEvent_cases {p : Params} {e : Event} {s t : State} (h : handleEvent p e s = .next t) :
    (∃ w off v, e = .hostWrite w off v ∧
      ((∃ why, accessError w off = some why ∧ t = { s with reply := .fault why }) ∨
       (accessError w off = none ∧ regAt off = none ∧ t = { s with reply := .done }) ∨
       (∃ r, accessError w off = none ∧ regAt off = some r ∧ writeReg r v { s with reply := .done } = .next t))) ∨
    (∃ w off a, e = .hostRead w off ∧ t = { s with reply := a }) ∨
    (∃ l, e = .tick l ∧ t = tick p l s) ∨
    (∃ ok bytes r, e = .busDone ok bytes ∧ s.ports.pending = .bus r ∧ t = busDone p r ok bytes s) ∨
    (∃ ok n r, e = .serDone ok n ∧ s.ports.pending = .ser r ∧ t = serDone r ok n s) ∨
    (∃ b, e = .serRx b ∧ t = serRx b s) ∨ (e = .serRxErr ∧ t = serRxErr s) ∨ (e = .reset ∧ t = resetEvent s) := by
  cases e with
  | hostWrite w off v =>
    refine .inl ⟨w, off, v, rfl, ?_⟩
    simp only [handleEvent, hostWrite] at h
    split at h
    · cases h; exact .inl ⟨_, ‹_›, rfl⟩
    · split at h
      · exact .inr (.inr ⟨_, ‹_›, ‹_›, h⟩)
      · cases h; exact .inr (.inl ⟨‹_›, ‹_›, rfl⟩)
  | hostRead w off =>
    simp only [handleEvent, hostRead] at h
    cases h
    split <;> exact .inr (.inl ⟨w, off, _, rfl, rfl⟩)
  | tick l => cases h; exact .inr (.inr (.inl ⟨l, rfl, rfl⟩))
  | busDone ok bytes =>
    simp only [handleEvent] at h
    split at h
    · cases h; exact .inr (.inr (.inr (.inl ⟨ok, bytes, _, rfl, ‹_›, rfl⟩)))
    · cases h
  | serDone ok n =>
    simp only [handleEvent] at h
    split at h
    · cases h; exact .inr (.inr (.inr (.inr (.inl ⟨ok, n, _, rfl, ‹_›, rfl⟩))))
    · cases h
  | serRx b => cases h; exact .inr (.inr (.inr (.inr (.inr (.inl ⟨b, rfl, rfl⟩)))))
  | serRxErr => cases h; exact .inr (.inr (.inr (.inr (.inr (.inr (.inl ⟨rfl, rfl⟩))))))
  | reset => cases h; exact .inr (.inr (.inr (.inr (.inr (.inr (.inr ⟨rfl, rfl⟩))))))

/-- A step takes the first event of the inbox. -/
theorem step_of_inbox {s : State} {e : Event} {rest : List Event} (h : s.inbox = e :: rest) :
    step s = handleEvent Config.params e { s with inbox := rest } := by
  simp [step, stepWith, nextEvent, h]

/-- A step with no event in the inbox takes a free one. -/
theorem step_of_empty {s : State} (h : s.inbox = []) :
    step s = handleEvent Config.params (Config.freeEvent s.draws) { s with draws := s.draws + 1 } := by
  simp [step, stepWith, nextEvent, h]

/-! ### Runs -/

theorem runEvents_cons {p : Params} {e : Event} {rest : List Event} {s u : State} (h : handleEvent p e s = .next u) :
    runEvents p (e :: rest) s = runEvents p rest u := by
  simp [runEvents, h]

/-- A run over two lists is the run over the second from where the first one ends. -/
theorem runEvents_append {p : Params} {first second : List Event} {s u : State} (h : runEvents p first s = .next u) :
    runEvents p (first ++ second) s = runEvents p second u := by
  induction first generalizing s with
  | nil => cases h; rfl
  | cons e es ih =>
    simp only [runEvents] at h
    simp only [List.cons_append, runEvents]
    cases he : handleEvent p e s with
    | next v => rw [he] at h; exact ih h
    | fault f => rw [he] at h; cases h
    | refused r => rw [he] at h; cases h

end Sys2Proof.Machine
end

