-- ==== Sys2Proof/Laws/PerInstr.lean ====
section
/-! SUPPORT. Statements for all commands, one lemma per constructor of `Instr`. -/

namespace Sys2Proof.Laws

open Sys2Proof

/-- The field OPC of a command's CMD value is its opcode: the value LAST_OP receives at acceptance (R47, R152). -/
def LastOp.Statement (i : Instr) : Prop := opcOf (encode i) = i.opcode

theorem LastOp.owRead : LastOp.Statement .owRead := by unfold LastOp.Statement; decide

theorem LastOp.fsRead : LastOp.Statement .fsRead := by unfold LastOp.Statement; decide

theorem LastOp.cmpRead : LastOp.Statement .cmpRead := by unfold LastOp.Statement; decide

theorem LastOp.lineWait (level : Bool) (timeout : Nat) : LastOp.Statement (.lineWait level timeout) := by
  unfold LastOp.Statement opcOf encode Instr.opcode opcLineWait
  generalize BitVec.ofNat 32 timeout = w
  apply BitVec.eq_of_getLsbD_eq
  intro i hi
  have h : i < 16 := by omega
  have h32 : i < 32 := by omega
  have hc : (if level = true then 0x100#32 else 0#32).getLsbD i = false :=
    (by decide : ∀ (b : Bool) (j : Fin 8), (if b = true then 0x100#32 else 0#32).getLsbD j = false) level ⟨i, hi⟩
  have h4 : (4#32).getLsbD i = (4#8).getLsbD i :=
    (by decide : ∀ j : Fin 8, (4#32).getLsbD j = (4#8).getLsbD j) ⟨i, hi⟩
  rw [BitVec.getLsbD_extractLsb', Nat.zero_add, BitVec.getLsbD_or, BitVec.getLsbD_or, BitVec.getLsbD_shiftLeft]
  refine Eq.trans ?_ h4
  simp only [hi, h, decide_true, Bool.true_and, Bool.not_true, Bool.false_and, Bool.and_false, Bool.false_or, h32]
  exact (congrArg (· || (4#32).getLsbD i) hc).trans (Bool.false_or _)

end Sys2Proof.Laws
end

