-- ==== Sys2Proof/Tests/Slice0.lean ====
section
/-! SUPPORT. Tests on fixed values, with expected results from the spec (95_test_vectors.md and the worked values of its
rules), and one witness for the hypotheses of each statement that has any. -/

namespace Sys2Proof.Tests

open Sys2Proof Sys2Proof.Machine

/-! ### Helpers -/

/-- What a test asks of the outcome of a step. -/
def holds (o : Host.Outcome State Fault Refusal) (f : State → Bool) : Bool :=
  match o with
  | .next t => f t
  | .fault _ => false
  | .refused _ => false

/-- Short times and counts, for witnesses of statements over every parameter set. -/
def small : Params where
  owTReq := 1
  owTimeout := 3
  owBit1Min := 2
  owBackoff := 2
  owAttempts := 2
  cmpPollMax := 2
  cmpPollDelay := 1
  cmpRegCal1 := 0x8A
  cmpRegCal2 := 0xE1
  cmpRegCal3 := 0x00
  cmpRegConfig := 0x75
  cmpRegCtrlHum := 0x72
  cmpRegCtrlMeas := 0x74
  cmpRegStatus := 0x1D
  cmpRegData := 0x1F
  serIbt := 2

/-- A running command at the control point `ph`, with tick counter `k` and the ports as given. -/
def running (ph : Phase) (k : Nat) (ports : Ports) : State :=
  { State.reset with
    status := { State.reset.status with busy := true }
    seq := { State.reset.seq with active := ph.owner, phase := ph, k := k }
    ports := ports }

def closedPorts : Ports := { busOpen := false, serOpen := false, pending := .none }

/-- OW.READ in phase `ph` of attempt `n`, at count `k`, with `i` bits stored. -/
def inOw (ph : OwPhase) (n : BitVec 3) (k : Nat) (i : BitVec 6) : State :=
  { running (.ow ph) k closedPorts with
    line := { mode := decide (ph = .requestPulse), out := false, sync1 := false, sync2 := false }
    ow := { State.reset.ow with attempt := n, bitidx := i } }

/-- CMP.READ with its first status read outstanding. -/
def inStatus : State :=
  { running .cmpStatus 0 { busOpen := true, serOpen := false, pending := .bus (.read1 0x1D) } with
    cmp := { State.reset.cmp with polls := 1 } }

/-- CMP.READ with its burst read outstanding, after one poll. -/
def inBurst : State :=
  { running .cmpBurst 0 { busOpen := true, serOpen := false, pending := .bus (.readN 0x1F 8) } with
    cmp := { State.reset.cmp with polls := 1 } }

/-- FS.READ with its open outstanding, with its write outstanding, and receiving. -/
def inFsOpen : State := running .fsOpen 0 { busOpen := false, serOpen := false, pending := .ser .openPort }
def inFsWrite : State := running .fsWrite 0 { busOpen := false, serOpen := true, pending := .ser (.write commandFrame) }
def inFsReceive : State := running .fsReceive 0 { busOpen := false, serOpen := true, pending := .none }

/-- CMP.READ with its open outstanding. -/
def inCmpOpen : State :=
  running .cmpOpen 0 { busOpen := false, serOpen := false, pending := .bus (.openDev Config.cmpSlaveAddr) }

/-! ### Well-formedness: each check refuses an ill-formed term -/

theorem test_wf_timeout_limit :
    Instr.wf (.lineWait true 65535) = true ∧ Instr.wf (.lineWait true 65536) = false := by decide

theorem test_wf_small : small.wf = true := by decide

theorem test_wf_params_each_check :
    Params.wf { small with owTimeout := 0, owBit1Min := 0 } = false ∧
    Params.wf { small with owBit1Min := 4 } = false ∧
    Params.wf { small with owTReq := 0 } = false ∧
    Params.wf { small with owBackoff := 0 } = false ∧
    Params.wf { small with owAttempts := 0 } = false ∧
    Params.wf { small with owAttempts := 8 } = false ∧
    Params.wf { small with cmpPollMax := 0 } = false ∧
    Params.wf { small with cmpPollMax := 16 } = false ∧
    Params.wf { small with serIbt := 0 } = false := by decide

/-! ### Decoding: words written out from R151 and R152 (95_test_vectors.md E vectors) -/

theorem test_decode_owRead :
    decode 0b00000000000000000000000000000001 = .command .owRead ∧ decodeTableWord 32 1 = some .owRead := by decide

theorem test_decode_fsRead :
    decode 0b00000000000000000000000000000010 = .command .fsRead ∧ decodeTableWord 32 2 = some .fsRead := by decide

theorem test_decode_cmpRead :
    decode 0b00000000000000000000000000000011 = .command .cmpRead ∧ decodeTableWord 32 3 = some .cmpRead := by decide

/-- TIMEOUT 100 in bits 31:16, L in bit 8, OPC 4; and L = 0 with TIMEOUT 1. -/
theorem test_decode_lineWait :
    decode 0b00000000011001000000000100000100 = .command (.lineWait true 100) ∧
    decode 0b00000000000000010000000000000100 = .command (.lineWait false 1) := by decide

theorem test_decode_illegal :
    decode 0 = .illegal (.unassignedOpcode 0) ∧ decode 0x00000102 = .illegal (.reservedBits 2) ∧
    decode 0x00000204 = .illegal (.reservedBits 4) ∧ decodeTableWord 32 0 = none := by decide

theorem test_encode_lineWait : encode (.lineWait true 100) = 0x00640104 := by decide

/-! ### One step of each command -/

/-- R231: OW_PHASE reads RequestPulse from acceptance on. STATUS is 0x00010101. -/
theorem test_owRead_first_step :
    holds (step (State.reset.withFetchWord 32 1)) (fun t => regWord .status t == 0x00010101) = true := by decide

/-- R239: a high time of 50 ticks is a 1, one of 49 ticks a 0. -/
theorem test_owRead_bit_threshold :
    holds (handleEvent Config.params (.tick false) (inOw .bitLow 1 50 7)) (fun t => frameBit t.ow.shreg 7) = true ∧
    holds (handleEvent Config.params (.tick false) (inOw .bitLow 1 49 7)) (fun t => !frameBit t.ow.shreg 7) = true := by
  decide

/-- R340: the serial open is outstanding after acceptance; STATUS is 0x00000201. -/
theorem test_fsRead_first_step :
    holds (step (State.reset.withFetchWord 32 2))
      (fun t => regWord .status t == 0x00000201 && t.ports.pending == .ser .openPort) = true := by decide

/-- R160, R344: the command frame's own last byte obeys the checksum rule. -/
theorem test_fsRead_frame_checksum :
    serialChecksum ⟨#[0xFF, 0x01, 0x86, 0, 0, 0, 0, 0, 0], rfl⟩ = 0x79 := by decide

/-- R280, R281: CMP.READ latches the reset settings; STATUS is 0x00000301. -/
theorem test_cmpRead_first_step :
    holds (step (State.reset.withFetchWord 32 3))
      (fun t => regWord .status t == 0x00000301 && t.cmp.cfg == 0x1110) = true := by decide

/-- The calibration set C of 95_test_vectors.md, packed. -/
def setC : Coeffs :=
  packCoefficients (imageOf
    [0xFC, 0x66, 0x03, 0x00, 0x28, 0x8E, 0x1A, 0xD7, 0x58, 0x00, 0xA7, 0x1C, 0x82, 0xFF, 0x29, 0x1E, 0x00, 0x00, 0xA4,
     0xF4, 0xDB, 0xF9, 0x1E]
    [0x3F, 0x9F, 0x32, 0x00, 0x2D, 0x14, 0x78, 0x9C, 0x3C, 0x65, 0, 0, 0, 0] [0, 0, 0, 0, 0])

/-- The example of R280 (vector K1): CMP_TFINE 169543, CMP_TEMP 3311, CMP_PRES 92543, CMP_HUM 100000 from 120189. -/
theorem test_cmpRead_golden_vector :
    compTFine setC 520000 = 169543 ∧ compTemp 169543 = 3311 ∧
    compPres setC 400000 169543 = some (92543, true) ∧
    compHumRaw setC 32000 169543 = 120189 ∧ compHum setC 32000 169543 = 100000 := by decide +kernel

/-- R216: LINE.WAIT 1, 100 latches its operands. -/
theorem test_lineWait_first_step :
    holds (step (State.reset.withFetchWord 32 0x00640104))
      (fun t => t.seq.lwLevel && t.seq.lwTimeout == 100 && regWord .status t == 0x00000401) = true := by decide

/-- R216 "T = 0": exactly one evaluation, which succeeds on a match and times out otherwise. -/
theorem test_lineWait_zero_timeout :
    holds (handleEvent Config.params (.tick false) (running .lwWait 0 closedPorts))
      (fun t => t.status.result == .ok && t.status.done) = true ∧
    holds (handleEvent Config.params (.tick true) (running .lwWait 0 closedPorts))
      (fun t => t.status.result == .timeout && t.status.done) = true := by decide

/-! ### Witnesses -/

theorem test_witness_DecodeOfEncode : Instr.wf (.lineWait false 65535) = true ∧ Instr.wf .owRead = true := by decide

theorem test_witness_EncodeOfDecode : decode 0xFFFF0004 = .command (.lineWait false 65535) := by decide

theorem test_witness_StepRunsDecodedCommand :
    (State.reset.withFetchWord 32 2).inbox = WR .cmd 2 :: [] ∧ decode 2 = .command .fsRead := by decide

theorem test_witness_RunOfInboxIsRunOfEvents :
    holds (runEvents Config.params [WR .cmd 4, .tick false] { State.reset with inbox := [.serRxErr] })
      (fun t => t.status.done) = true := by decide

theorem test_witness_CmdWriteIsAcceptedOrDropped :
    inFsOpen.status.busy = true ∧ State.reset.status.busy = false ∧
    decode 0x00000104 = .command (.lineWait true 0) ∧ decode 0x80000001 = .illegal (.reservedBits 1) := by decide

theorem test_witness_commands_are_offered_idle :
    State.reset.status.busy = false ∧ Instr.wf (.lineWait true 65535) = true := by decide

theorem test_witness_CommandEventFrame :
    exec .owRead State.reset = .next (accept opcOwRead owStart State.reset) ∧
    exec .fsRead State.reset = .next (accept opcFsRead fsStart State.reset) ∧
    exec .cmpRead inFsOpen = .next (setOverrun inFsOpen) ∧
    exec (.lineWait true 1) State.reset = .next (accept opcLineWait (lwStart true 1) State.reset) :=
  ⟨rfl, rfl, rfl, rfl⟩

/-- The clauses of `Inv` about records and registers, of a state that has those of reset. -/
theorem records_of_reset (p : Params) (s : State) (h1 : s.ow.fr = .ok) (h2 : s.ow.fp = .idle) (h3 : s.ow.fb = 0)
    (h4 : s.cmpCfg = 0x1110) (h5 : s.cmpRegs = State.reset.cmpRegs) (h6 : s.owRegs = State.reset.owRegs) :
    FailureRecordInv s ∧ RegsInv p s := by
  refine ⟨⟨.inl h1, .inl h2, ?_⟩, ?_, ?_, ?_, ?_, ?_, ?_, ?_⟩
  · rw [h3]; decide
  · rw [h4]; decide
  · rw [h5]; exact ⟨0, by decide⟩
  · rw [h5]; decide
  · rw [h5]; exact Nat.zero_le _
  · rw [h5]; decide
  · rw [h6]; exact Nat.zero_le _
  · rw [h6]; decide

theorem test_inv_inFsOpen (p : Params) : Inv p inFsOpen :=
  ⟨rfl, fun _ => ⟨rfl, rfl⟩, rfl, rfl, rfl, rfl, trivial, (records_of_reset p _ rfl rfl rfl rfl rfl rfl).1,
    (records_of_reset p _ rfl rfl rfl rfl rfl rfl).2⟩

theorem test_inv_inFsWrite (p : Params) : Inv p inFsWrite :=
  ⟨rfl, fun _ => ⟨rfl, rfl⟩, rfl, rfl, rfl, rfl, trivial, (records_of_reset p _ rfl rfl rfl rfl rfl rfl).1,
    (records_of_reset p _ rfl rfl rfl rfl rfl rfl).2⟩

theorem test_inv_inFsReceive : Inv small inFsReceive :=
  ⟨rfl, fun _ => ⟨rfl, rfl⟩, rfl, rfl, rfl, rfl, (by decide : (0 < 2 ∧ (0#4).toNat < 9)),
    (records_of_reset small _ rfl rfl rfl rfl rfl rfl).1, (records_of_reset small _ rfl rfl rfl rfl rfl rfl).2⟩

theorem test_inv_inCmpOpen (p : Params) : Inv p inCmpOpen :=
  ⟨rfl, fun _ => ⟨rfl, rfl⟩, rfl, rfl, rfl, rfl, ⟨rfl, rfl⟩, (records_of_reset p _ rfl rfl rfl rfl rfl rfl).1,
    (records_of_reset p _ rfl rfl rfl rfl rfl rfl).2⟩

theorem test_inv_inStatus : Inv small inStatus :=
  ⟨rfl, fun _ => ⟨rfl, rfl⟩, rfl, rfl, rfl, rfl, (by decide : (false = false ∧ 1 ≤ (1#4).toNat ∧ (1#4).toNat ≤ 2)),
    (records_of_reset small _ rfl rfl rfl rfl rfl rfl).1, (records_of_reset small _ rfl rfl rfl rfl rfl rfl).2⟩

theorem test_inv_inBurst : Inv small inBurst :=
  ⟨rfl, fun _ => ⟨rfl, rfl⟩, rfl, rfl, rfl, rfl, (by decide : (false = false ∧ 1 ≤ (1#4).toNat ∧ (1#4).toNat ≤ 2)),
    (records_of_reset small _ rfl rfl rfl rfl rfl rfl).1, (records_of_reset small _ rfl rfl rfl rfl rfl rfl).2⟩

theorem test_inv_inOw : Inv Config.params (inOw .bitLow 5 100 39) :=
  ⟨rfl, fun _ => ⟨rfl, rfl⟩, rfl, rfl, rfl, rfl,
    ⟨by decide, by decide, by decide, rfl, rfl, nofun, nofun, fun _ => by decide, fun _ => by decide⟩,
    (records_of_reset Config.params _ rfl rfl rfl rfl rfl rfl).1,
    (records_of_reset Config.params _ rfl rfl rfl rfl rfl rfl).2⟩

theorem with_inbox {p : Params} {s : State} (h : Inv p s) (evs : List Event) : Inv p { s with inbox := evs } :=
  ⟨h.1, h.2, h.3, h.4, h.5, h.6, h.7, h.8, h.9⟩

theorem test_witness_StepKeepsInvariant :
    Inv Config.params { inFsOpen with inbox := [.tick true] } ∧ ∃ t, step { inFsOpen with inbox := [.tick true] } = .next t :=
  ⟨with_inbox (test_inv_inFsOpen _) _, _, rfl⟩

theorem test_witness_CommandEndsWithItsOwnCodes :
    Inv Config.params { inFsOpen with inbox := [.serDone false 0] } ∧
    (∃ t, step { inFsOpen with inbox := [.serDone false 0] } = .next t ∧ t.status.busy = false ∧ t.status.done = true) ∧
    inFsOpen.status.busy = true :=
  ⟨with_inbox (test_inv_inFsOpen _) _, ⟨_, rfl, rfl, rfl⟩, rfl⟩

theorem test_witness_ResultsChangeOnlyAtCompletion_ow :
    Inv Config.params { inOw .bitLow 5 100 39 with inbox := [.tick true] } ∧
    ∃ t, step { inOw .bitLow 5 100 39 with inbox := [.tick true] } = .next t ∧ t.owRegs ≠ State.reset.owRegs :=
  ⟨with_inbox test_inv_inOw _, _, rfl, by decide⟩

theorem test_witness_ResultsChangeOnlyAtCompletion_fs :
    Inv Config.params { inFsOpen with fsValue := 5, inbox := [.serDone false 0] } ∧
    ∃ t, step { inFsOpen with fsValue := 5, inbox := [.serDone false 0] } = .next t ∧ t.fsValue ≠ 5 :=
  ⟨⟨rfl, fun _ => ⟨rfl, rfl⟩, rfl, rfl, rfl, rfl, trivial, (test_inv_inFsOpen Config.params).8, (test_inv_inFsOpen Config.params).9⟩,
    _, rfl, by decide⟩

theorem test_witness_ResultsChangeOnlyAtCompletion_cmp :
    Inv Config.params { inCmpOpen with cmpRegs := { State.reset.cmpRegs with pres := 1 }, inbox := [.busDone false []] } ∧
    ∃ t, step { inCmpOpen with cmpRegs := { State.reset.cmpRegs with pres := 1 }, inbox := [.busDone false []] } = .next t ∧
      t.cmpRegs ≠ { State.reset.cmpRegs with pres := 1 } :=
  ⟨⟨rfl, fun _ => ⟨rfl, rfl⟩, rfl, rfl, rfl, rfl, ⟨rfl, rfl⟩, (test_inv_inCmpOpen Config.params).8,
      (test_inv_inCmpOpen Config.params).9⟩,
    _, rfl, by decide⟩

theorem test_witness_ResultsChangeOnlyAtCompletion_lw :
    Inv Config.params { running .lwWait 0 closedPorts with lineElapsed := 7, inbox := [.tick false] } ∧
    ∃ t, step { running .lwWait 0 closedPorts with lineElapsed := 7, inbox := [.tick false] } = .next t ∧
      t.lineElapsed ≠ 7 :=
  ⟨⟨rfl, fun _ => ⟨rfl, rfl⟩, rfl, rfl, rfl, rfl, Nat.zero_le _,
      (records_of_reset Config.params _ rfl rfl rfl rfl rfl rfl).1,
      (records_of_reset Config.params _ rfl rfl rfl rfl rfl rfl).2⟩,
    _, rfl, by decide⟩

theorem test_witness_UnansweredRequestStaysBusy :
    small.wf = true ∧ Inv small inCmpOpen ∧ inCmpOpen.ports.pending ≠ .none ∧
    Inv small inFsWrite ∧ inFsWrite.ports.pending ≠ .none ∧
    (∃ t, runEvents small [.tick true, WR .cmd 1, .serRx 0] inCmpOpen = .next t) ∧
    ∃ t, runEvents small [.tick true, WR .cmd 1, .serRx 0] inFsWrite = .next t :=
  ⟨by decide, test_inv_inCmpOpen _, nofun, test_inv_inFsWrite _, nofun, ⟨_, rfl⟩, _, rfl⟩

theorem test_witness_IllegalAccessFaultsAndChangesNothing :
    AccessWidth.byte ≠ .word ∧ AccessWidth.half ≠ .word ∧ (0x001#12).toNat % 4 ≠ 0 ∧ (0x00B#12).toNat % 4 ≠ 0 := by decide

theorem test_witness_UnmappedOffsetReadsZeroIgnoresWrite :
    (0x018#12).toNat % 4 = 0 ∧ (0xFFC#12).toNat % 4 = 0 ∧
    (∀ r ∈ allRegs, r.offset ≠ 0x018#12 ∧ r.offset ≠ 0xFFC#12) := by decide

theorem test_witness_RegisterReadsAndReadOnlyWrites :
    Reg.id ≠ .cmd ∧ Reg.id ≠ .status ∧ Reg.id ≠ .intEn ∧ Reg.id ≠ .lineCtrl ∧ Reg.id ≠ .cmpCfg := by decide

/-- The last clause's hypothesis; the others have none. Each enable alone, and each flag cleared alone (R374). -/
theorem test_witness_InterruptFollowsFlags :
    State.reset.status.busy = false ∧
    holds (handleEvent small (WR .intEn 0x1) { inFsOpen with status := { inFsOpen.status with overrun := true } })
      (fun t => !irq t && regWord .intEn t == 1) = true ∧
    holds (handleEvent small (WR .intEn 0xFFFFFFFE) { inFsOpen with status := { inFsOpen.status with overrun := true } })
      (fun t => irq t && regWord .intEn t == 2) = true := by decide

theorem test_witness_LineCtrlWriteOnlyWhileIdle :
    State.reset.status.busy = false ∧ inFsOpen.status.busy = true := by decide

theorem test_witness_EveryEnabledEventHasATransition :
    (∃ r, inCmpOpen.ports.pending = .bus r) ∧ (∃ r, inFsOpen.ports.pending = .ser r) := ⟨⟨_, rfl⟩, _, rfl⟩

theorem test_witness_TickSamplesTheLine :
    ∃ t, handleEvent small (.tick true) (inOw .requestPulse 1 0 0) = .next t := ⟨_, rfl⟩

/-- Each of the three causes does change the line: a tick of OW.READ, the host's write while idle, Reset. -/
theorem test_witness_OnlyOwReadAndIdleHostDriveTheLine :
    (∃ t, handleEvent small (.tick true) (inOw .requestPulse 1 0 0) = .next t ∧ t.line.mode ≠ true) ∧
    (∃ t, handleEvent small (WR .lineCtrl 1) State.reset = .next t ∧ t.line.mode ≠ State.reset.line.mode) ∧
    ∃ t, handleEvent small .reset (inOw .requestPulse 1 0 0) = .next t ∧ t.line.mode ≠ true :=
  ⟨⟨_, rfl, by decide⟩, ⟨_, rfl, by decide⟩, _, rfl, by decide⟩

/-- Both clauses, at their boundary: a match after exactly T other samples, and T + 1 other samples. -/
theorem test_witness_LineWaitEndsAtFirstMatchOrDeadline :
    State.reset.status.busy = false ∧ 1 ≤ 65535 ∧ (∀ x ∈ [false], lineSample x State.reset ≠ true) ∧
    [false].length ≤ 1 ∧ lineSample true State.reset = true ∧
    (∀ x ∈ [false, false], lineSample x State.reset ≠ true) ∧ [false, false].length = 1 + 1 := by decide

theorem test_witness_AttemptBeginsInOneTick :
    (running .owStart 0 closedPorts).seq.active = .ow ∧ (running .owStart 0 closedPorts).seq.phase = .owStart ∧
    (inOw .backoff 1 1 0).seq.active = .ow ∧ (inOw .backoff 1 1 0).seq.phase = .ow .backoff ∧
    (inOw .backoff 1 1 0).seq.k + 1 = small.owBackoff := by decide

/-- A whole back-off, its last tick and the tick before it. -/
theorem test_witness_AttemptBeginsInOneTick_backoff :
    (inOw .backoff 1 0 0).seq.active = .ow ∧ (inOw .backoff 1 0 0).seq.phase = .ow .backoff ∧
    (inOw .backoff 1 0 0).seq.k = 0 ∧ (inOw .backoff 1 0 0).line.mode = false ∧ (inOw .backoff 1 0 0).line.out = false ∧
    (inOw .backoff 1 0 0).status.busy = true ∧ 1 ≤ small.owBackoff ∧ [true, true].length = small.owBackoff ∧
    [true].length < small.owBackoff := by decide

/-- The pulse's last tick (one sample) and the point before it (none). -/
theorem test_witness_RequestPulseLastsItsTime :
    1 ≤ small.owTReq ∧ (inOw .requestPulse 1 0 0).seq.active = .ow ∧
    (inOw .requestPulse 1 0 0).seq.phase = .ow .requestPulse ∧ (inOw .requestPulse 1 0 0).seq.k = 0 ∧
    (inOw .requestPulse 1 0 0).line.mode = true ∧ (inOw .requestPulse 1 0 0).line.out = false ∧
    [true].length = small.owTReq ∧ ([] : List Bool).length < small.owTReq := by decide

theorem test_witness_BitIsClassifiedByItsHighTime :
    (inOw .bitLow 1 2 38).seq.active = .ow ∧ (inOw .bitLow 1 2 38).seq.phase = .ow .bitLow ∧
    (inOw .bitLow 1 2 38).ow.bitidx.toNat < 39 ∧ lineSample false (inOw .bitLow 1 2 38) = false := by decide

/-- An attempt before the last one and the last one, in a bit phase and in the preamble. -/
theorem test_witness_WaitTimeoutFailsTheAttempt :
    OwPhase.bitLow.isWait = true ∧ (inOw .bitLow 1 3 5).seq.active = .ow ∧ (inOw .bitLow 1 3 5).seq.phase = .ow .bitLow ∧
    (inOw .bitLow 1 3 5).seq.k = small.owTimeout ∧ lineSample true (inOw .bitLow 1 3 5) ≠ OwPhase.bitLow.level ∧
    (inOw .bitLow 1 3 5).ow.attempt.toNat ≠ small.owAttempts ∧
    OwPhase.ackHigh.isWait = true ∧ (inOw .ackHigh 2 3 0).seq.k = small.owTimeout ∧
    (inOw .ackHigh 2 3 0).seq.phase = .ow .ackHigh ∧ lineSample false (inOw .ackHigh 2 3 0) ≠ OwPhase.ackHigh.level ∧
    (inOw .ackHigh 2 3 0).ow.attempt.toNat = small.owAttempts := by decide

/-- The frame 00 01 00 00 01: bits 15 and 39 are 1. The idle machine, and the last tick of a back-off. -/
theorem test_witness_OwReadDecodesEveryValidFrame :
    small.wf = true ∧ State.reset.status.busy = false ∧
    (inOw .backoff 1 1 0).status.busy = true ∧ (inOw .backoff 1 1 0).seq.active = .ow ∧
    (inOw .backoff 1 1 0).seq.phase = .ow .backoff ∧ (inOw .backoff 1 1 0).seq.k + 1 = small.owBackoff ∧
    (inOw .backoff 1 1 0).ow.attempt.toNat < small.owAttempts ∧
    (frameByte 0x0001000001#40 4).toNat =
      ((frameByte 0x0001000001#40 0).toNat + (frameByte 0x0001000001#40 1).toNat + (frameByte 0x0001000001#40 2).toNat +
        (frameByte 0x0001000001#40 3).toNat) % 256 ∧
    [true, true].length = small.owTReq + 1 ∧ 0 < small.owTimeout ∧
    (∀ i, i < 40 → 1 ≤ 1 ∧ 1 ≤ small.owTimeout ∧
      1 ≤ (if i = 15 ∨ i = 39 then 2 else 1) ∧ (if i = 15 ∨ i = 39 then 2 else 1) ≤ small.owTimeout) ∧
    (∀ i, i < 40 → frameBit 0x0001000001#40 i = decide (small.owBit1Min ≤ (if i = 15 ∨ i = 39 then 2 else 1))) := by
  decide

theorem test_witness_BadChecksumFailsTheAttempt :
    (inOw .bitLow 1 2 39).seq.active = .ow ∧ (inOw .bitLow 1 2 39).seq.phase = .ow .bitLow ∧
    (inOw .bitLow 1 2 39).ow.bitidx = 39 ∧ lineSample false (inOw .bitLow 1 2 39) = false ∧
    frameChecksumOk (setFrameBit (inOw .bitLow 1 2 39).ow.shreg 39 (decide (small.owBit1Min ≤ 2))) = false ∧
    (inOw .bitLow 1 2 39).ow.attempt.toNat ≠ small.owAttempts ∧
    (inOw .bitLow 2 2 39).ow.attempt.toNat = small.owAttempts := by decide

/-- A response that passes (vector: the value 800, checksum 0x57). -/
def goodResponse : Vector Byte 9 := ⟨#[0xFF, 0x86, 0x03, 0x20, 0, 0, 0, 0, 0x57], rfl⟩

theorem test_witness_SingleByteMutationIsRejected :
    framingOk goodResponse = true ∧ serialChecksumOk goodResponse = true ∧
    (0x00 : Byte) ≠ goodResponse[(0 : Fin 9)] ∧ (0x04 : Byte) ≠ goodResponse[(2 : Fin 9)] := by decide

/-- The three branches of the result are all met. -/
theorem test_witness_FsReadValidatesEveryResponse :
    State.reset.status.busy = false ∧ State.reset.ports.serOpen = false ∧
    (∀ _i : Fin 9, [true].length < small.serIbt) ∧ (∀ _i : Fin 9, ([] : List Bool).length < small.serIbt) ∧
    (framingOk goodResponse && serialChecksumOk goodResponse) = true ∧
    framingOk (goodResponse.set 1 0x87) = false ∧ serialChecksumOk (goodResponse.set 5 1) = false := by decide

theorem test_witness_SilentSerialSensorTimesOut :
    1 ≤ small.serIbt ∧ inFsReceive.seq.active = .fs ∧ inFsReceive.seq.phase = .fsReceive ∧ inFsReceive.seq.k = 0 ∧
    [true].length < small.serIbt ∧ [true, false].length = small.serIbt := by decide

theorem test_witness_SerialBytesOutsideReceiveAreDiscarded : inFsWrite.seq.phase ≠ .fsReceive := by decide

theorem test_witness_SerialFailureEndsTransportUnavailable :
    Inv small inFsOpen ∧ inFsOpen.seq.phase = .fsOpen ∧ Inv small inFsWrite ∧ inFsWrite.seq.phase = .fsWrite ∧
    (8 : Nat) ≠ 9 ∧ Inv small inFsReceive ∧ inFsReceive.seq.phase = .fsReceive ∧ inFsReceive.seq.active = .fs :=
  ⟨test_inv_inFsOpen _, rfl, test_inv_inFsWrite _, rfl, by decide, test_inv_inFsReceive, rfl, rfl⟩

theorem test_witness_ShiftsFloorAndDivisionTruncates :
    -(2 ^ 31) ≤ (-7 : Int) ∧ (-7 : Int) < 2 ^ 31 ∧ (2 : Int) ≠ 0 ∧ ¬((-7 : Int) = -(2 ^ 31) ∧ (2 : Int) = -1) ∧
    tdiv (-7) 2 = -3 := by decide

/-- Both branches (vectors K1 and a pressure sample high enough to double first). -/
theorem test_witness_PressureBranchAvoidsOverflow :
    compPres setC 400000 169543 = some (92543, true) ∧ (2 ^ 30 : Int) ≤ presNumerator setC 400000 169543 ∧
    (compPres setC 800000 169543).isSome = true ∧ presNumerator setC 800000 169543 < (2 ^ 30 : Int) ∧
    -(2 ^ 30 : Int) ≤ presNumerator setC 800000 169543 := by decide +kernel

/-- Above the range, below it, and inside. -/
theorem test_witness_HumidityIsAlwaysClamped :
    100000 < compHumRaw setC 32000 169543 ∧ compHumRaw setC 0 169543 < 0 ∧
    0 ≤ compHumRaw setC 20000 169543 ∧ compHumRaw setC 20000 169543 ≤ 100000 := by decide +kernel

/-- A first calibration range with `par_p1` 0x8E28 and every other byte 0: the divisor is not 0 for a burst of zeros. -/
def calBytes : List Byte := [0, 0, 0, 0, 0x28, 0x8E] ++ List.replicate 17 0

theorem test_witness_CmpReadComputesTheMeasurement :
    small.wf = true ∧ State.reset.status.busy = false ∧ calBytes.length = 23 ∧ (List.replicate 14 (0 : Byte)).length = 14 ∧
    (List.replicate 5 (0 : Byte)).length = 5 ∧ (List.replicate 8 (0 : Byte)).length = 8 ∧
    [(0x7F : Byte)].length < small.cmpPollMax ∧ (∀ b ∈ [(0x7F : Byte)], b.getLsbD 7 = false) ∧
    (0x80 : Byte).getLsbD 7 = true ∧
    (compPres (packCoefficients (imageOf calBytes (List.replicate 14 0) (List.replicate 5 0)))
      (burstAdcP (burstOf (List.replicate 8 0))).toNat
      (compTFine (packCoefficients (imageOf calBytes (List.replicate 14 0) (List.replicate 5 0)))
        (burstAdcT (burstOf (List.replicate 8 0))).toNat)).isSome = true := by decide +kernel

/-- Both runs of CmpResultsDependOnlyOnReceivedBytes answer a next state: one poll more before the second. -/
theorem test_witness_CmpResultsDependOnlyOnReceivedBytes :
    small.wf = true ∧ State.reset.status.busy = false ∧ calBytes.length = 23 ∧
    (List.replicate 14 (0 : Byte)).length = 14 ∧ (List.replicate 5 (0 : Byte)).length = 5 ∧
    (List.replicate 8 (0 : Byte)).length = 8 ∧ ([] : List Byte).length < small.cmpPollMax ∧
    [(0x7F : Byte)].length < small.cmpPollMax ∧ (∀ b ∈ [(0x7F : Byte)], b.getLsbD 7 = false) ∧
    (0x80 : Byte).getLsbD 7 = true ∧
    holds (runEvents small (WR .cmd 0x00000003 :: (setupAnswers calBytes (List.replicate 14 0) (List.replicate 5 0) ++
      notReadyPolls small [] ++
      [.busDone true [0x80], .busDone true (List.replicate 8 0), .busDone true []])) State.reset)
      (fun t => t.status.done) = true ∧
    holds (runEvents small (WR .cmd 0x00000003 :: (setupAnswers calBytes (List.replicate 14 0) (List.replicate 5 0) ++
      notReadyPolls small [0x7F] ++
      [.busDone true [0x80], .busDone true (List.replicate 8 0), .busDone true []])) State.reset)
      (fun t => t.status.done && t.status.result == .ok) = true := by decide +kernel

theorem test_witness_ZeroDivisorEndsArithFault :
    Coeffs.zero.parP1 = 0 ∧ presDivisor Coeffs.zero 0 = 0 ∧ Inv small inBurst ∧ inBurst.seq.phase = .cmpBurst ∧
    (List.replicate 8 (0 : Byte)).length = 8 ∧
    presDivisor inBurst.cmp.coef (compTFine inBurst.cmp.coef (burstAdcT (burstOf (List.replicate 8 0))).toNat) = 0 :=
  ⟨rfl, by decide +kernel, test_inv_inBurst, rfl, rfl, by decide +kernel⟩

theorem test_witness_PollLimitEndsDataNotReady :
    small.wf = true ∧ State.reset.status.busy = false ∧ calBytes.length = 23 ∧
    (List.replicate 14 (0 : Byte)).length = 14 ∧ (List.replicate 5 (0 : Byte)).length = 5 ∧
    [(0x7F : Byte)].length + 1 = small.cmpPollMax ∧
    (∀ b ∈ [(0x7F : Byte)], b.getLsbD 7 = false) ∧ (0x00 : Byte).getLsbD 7 = false := by decide

/-- A failed open, and a short status read. -/
theorem test_witness_BusFailureEndsTransportUnavailable :
    Inv small inCmpOpen ∧ inCmpOpen.ports.pending = .bus (.openDev Config.cmpSlaveAddr) ∧
    BusReq.openDev Config.cmpSlaveAddr ≠ .closeDev ∧
    Inv small inStatus ∧ inStatus.ports.pending = .bus (.read1 0x1D) ∧
    ([] : List Byte).length ≠ (BusReq.read1 0x1D).count ∧ BusReq.read1 0x1D ≠ .closeDev ∧
    (∀ a, BusReq.read1 0x1D ≠ .openDev a) :=
  ⟨test_inv_inCmpOpen _, rfl, nofun, test_inv_inStatus, rfl, by decide, nofun, nofun⟩

/-- A GPIO window before and after its initialisation. -/
def window (ready : Bool) : Gpw := { ready := ready, fsel := Vector.replicate 6 0, latch := 0, lev := 0, draws := 0 }

/-- R131: the words of the page, and an offset of it that is none of them. -/
theorem test_gpw_words :
    gpwRegAt 0x000 = some (.fsel 0) ∧ gpwRegAt 0x014 = some (.fsel 5) ∧ gpwRegAt 0x01C = some .set ∧
    gpwRegAt 0x028 = some .clr ∧ gpwRegAt 0x034 = some .lev ∧ gpwRegAt 0x018 = none ∧
    ∀ r ∈ gpwRegs, r.offset.toNat + 4 ≤ gpwPageBytes := by decide

/-- Pins 5 and 37 share a bit of the level register, and each has a function-select field of its own (R127, R129). -/
theorem test_witness_pin_operations :
    (window true).ready = true ∧ (window false).ready = false ∧
    (5 : Pin).val % 32 = (37 : Pin).val % 32 ∧ fselIndex 37 = 3 ∧ fselShift 37 = 21 ∧ fselIndex 59 = 5 := by decide

end Sys2Proof.Tests
end

section
/-! PROOFS: the wrap, the shifts and the division of 00_scope.md R13 and R14, the step of a legal CMD write, and which
events R9 enables. -/

namespace Sys2Proof.Machine

open Sys2Proof

/-! ### Arithmetic (R13, R14) -/

/-- The wrap moves a number by a multiple of 2^n. -/
theorem dvd_sub_wrap (n : Nat) (x : Int) : (2 ^ n : Int) ∣ x - wrap n x := by
  have h := @Int.dvd_self_sub_bmod x (2 ^ n)
  push_cast at h
  exact h

/-- Congruent numbers have one wrap. -/
theorem wrap_congr {n : Nat} {x y : Int} (h : (2 ^ n : Int) ∣ x - y) : wrap n x = wrap n y := by
  have h' : ((2 ^ n : Nat) : Int) ∣ x - y := by push_cast; exact h
  exact Int.bmod_eq_bmod_iff_bmod_sub_eq_zero.mpr (Int.dvd_iff_bmod_eq_zero.mp h')

theorem asr_mul_le (x : Int) (n : Nat) : asr x n * 2 ^ n ≤ x :=
  Int.ediv_mul_le x (by positivity)

theorem lt_asr_add_one_mul (x : Int) (n : Nat) : x < (asr x n + 1) * 2 ^ n :=
  Int.lt_ediv_add_one_mul_self x (by positivity)

/-- A quotient by a number of magnitude at least 2 has at most half the dividend's magnitude. -/
theorem natAbs_tdiv_le_half {a b : Int} (h : 2 ≤ b.natAbs) : (a.tdiv b).natAbs ≤ a.natAbs / 2 := by
  rw [Int.natAbs_tdiv]
  exact Nat.div_le_div_left h (by omega)

/-- The quotient of two signed 32-bit numbers is one too, but for -2^31 divided by -1. -/
theorem tdiv_range {a b : Int} (ha1 : -(2 ^ 31) ≤ a) (ha2 : a < 2 ^ 31) (hb : b ≠ 0)
    (hov : ¬(a = -(2 ^ 31) ∧ b = -1)) : -(2 ^ 31) ≤ a.tdiv b ∧ a.tdiv b < 2 ^ 31 := by
  obtain rfl | rfl | hbig : b = 1 ∨ b = -1 ∨ 2 ≤ b.natAbs := by omega
  · rw [Int.tdiv_one]
    exact ⟨ha1, ha2⟩
  · rw [Int.tdiv_neg, Int.tdiv_one]
    omega
  · have := natAbs_tdiv_le_half (a := a) hbig
    omega

/-- Settles O49: the wrap is in the range and congruent, and a congruent number of the range is its own wrap. -/
theorem wrapIsTheUniqueRepresentative : Obligations.WrapIsTheUniqueRepresentative := by
  intro n x y
  constructor
  · rintro rfl
    exact ⟨dvd_sub_wrap (n + 1) x, wrap_range n x⟩
  · rintro ⟨hdvd, hlo, hhi⟩
    calc y = wrap (n + 1) y := (wrap_of_range hlo hhi).symm
      _ = wrap (n + 1) x := (wrap_congr hdvd).symm

/-- Settles O50: the quotient stays in the 32-bit range outside the one overflowing case, so the wrap leaves it alone. -/
theorem shiftsFloorAndDivisionTruncates : Obligations.ShiftsFloorAndDivisionTruncates := by
  refine ⟨fun x n => ⟨asr_mul_le x n, lt_asr_add_one_mul x n⟩, ?_, by decide⟩
  intro a b ha1 ha2 _ _ hb hov
  obtain ⟨hlo, hhi⟩ := tdiv_range ha1 ha2 hb hov
  exact wrap_of_range hlo hhi

/-! ### The CMD write of a legal value (R42) -/

/-- Settles O5: the step takes the write, the write reaches CMD, and CMD runs the command it decodes to. -/
theorem stepRunsDecodedCommand : Obligations.StepRunsDecodedCommand := by
  intro s v i rest hinbox hdecode
  rw [step_of_inbox hinbox, handleEvent_WR]
  simp [writeReg, writeCmd, hdecode]

/-! ### Which events are enabled (R9) -/

/-- Every host write has a transition, a faulted access too. -/
theorem hostWrite_next (w : AccessWidth) (off : BitVec 12) (v : Word) (s : State) :
    ∃ t, hostWrite w off v s = .next t := by
  unfold hostWrite
  split
  · exact ⟨_, rfl⟩
  · split
    · exact writeReg_next _ _ _
    · exact ⟨_, rfl⟩

theorem handleEvent_busDone_next_iff (p : Params) (ok : Bool) (bytes : List Byte) (s : State) :
    (∃ t, handleEvent p (.busDone ok bytes) s = .next t) ↔ ∃ r, s.ports.pending = .bus r := by
  cases h : s.ports.pending <;> simp [handleEvent, h]

theorem handleEvent_serDone_next_iff (p : Params) (ok : Bool) (n : Nat) (s : State) :
    (∃ t, handleEvent p (.serDone ok n) s = .next t) ↔ ∃ r, s.ports.pending = .ser r := by
  cases h : s.ports.pending <;> simp [handleEvent, h]

/-- Settles O29: only the two answers ask for an outstanding request. -/
theorem everyEnabledEventHasATransition : Obligations.EveryEnabledEventHasATransition := by
  intro p e s
  cases e with
  | busDone ok bytes => simp [handleEvent_busDone_next_iff]
  | serDone ok n => simp [handleEvent_serDone_next_iff]
  | hostWrite w off v => exact iff_of_true (hostWrite_next w off v s) ⟨nofun, nofun⟩
  | hostRead w off => exact iff_of_true ⟨_, rfl⟩ ⟨nofun, nofun⟩
  | tick l => exact iff_of_true ⟨_, rfl⟩ ⟨nofun, nofun⟩
  | serRx b => exact iff_of_true ⟨_, rfl⟩ ⟨nofun, nofun⟩
  | serRxErr => exact iff_of_true ⟨_, rfl⟩ ⟨nofun, nofun⟩
  | reset => exact iff_of_true ⟨_, rfl⟩ ⟨nofun, nofun⟩

end Sys2Proof.Machine
end

section
/-! PROOFS: events to come influence nothing before they happen (R9). No operation of SFE reads or changes the inbox,
so each of them commutes with putting other events there. -/

namespace Sys2Proof.Machine

open Sys2Proof

/-- The state with the events `i` to come. -/
def State.withInbox (s : State) (i : List Event) : State := { s with inbox := i }

section Inbox

variable {s : State} {i : List Event}

theorem withInbox_seq : (s.withInbox i).seq = s.seq := rfl
theorem withInbox_cmp : (s.withInbox i).cmp = s.cmp := rfl
theorem withInbox_inbox : (s.withInbox i).inbox = i := rfl

/-! ### The shared operations -/

/-- A branch on anything but the inbox takes the same side. -/
theorem withInbox_ite {c c' : Prop} [Decidable c] [Decidable c'] {a b a' b' : State} (hc : c ↔ c')
    (ha : a.withInbox i = a') (hb : b.withInbox i = b') :
    (if c then a else b).withInbox i = if c' then a' else b' := by
  subst ha hb
  simp only [hc]
  split <;> rfl

theorem withInbox_accept {opc : BitVec 8} {start : State → State}
    (h : ∀ t : State, (start t).withInbox i = start (t.withInbox i)) :
    (accept opc start s).withInbox i = accept opc start (s.withInbox i) :=
  withInbox_ite Iff.rfl rfl (h _)

theorem withInbox_rejectCommand (v : Word) : (rejectCommand v s).withInbox i = rejectCommand v (s.withInbox i) :=
  withInbox_ite Iff.rfl rfl rfl

theorem withInbox_delayTick {n : Nat} {next : State → State}
    (h : ∀ t : State, (next t).withInbox i = next (t.withInbox i)) :
    (delayTick n next s).withInbox i = delayTick n next (s.withInbox i) :=
  withInbox_ite Iff.rfl (h _) rfl

/-! ### CMP.READ -/

theorem withInbox_cmpSucceed : (cmpSucceed s).withInbox i = cmpSucceed (s.withInbox i) := by
  simp only [cmpSucceed, withInbox_cmp]
  rfl

theorem withInbox_cmpEnd (c : ResultCode) : (cmpEnd c s).withInbox i = cmpEnd c (s.withInbox i) := by
  cases c with
  | ok => exact withInbox_cmpSucceed
  | _ => rfl

theorem withInbox_cmpStatus (p : Params) (st : Byte) :
    (cmpStatus p st s).withInbox i = cmpStatus p st (s.withInbox i) :=
  withInbox_ite Iff.rfl rfl (withInbox_ite Iff.rfl rfl (withInbox_ite Iff.rfl rfl rfl))

theorem withInbox_cmpCompute (bytes : List Byte) :
    (cmpCompute bytes s).withInbox i = cmpCompute bytes (s.withInbox i) := by
  dsimp only [cmpCompute, withInbox_cmp]
  split <;> rfl

theorem withInbox_cmpAnswer (p : Params) (good : Bool) (bytes : List Byte) :
    (cmpAnswer p good bytes s).withInbox i = cmpAnswer p good bytes (s.withInbox i) := by
  unfold cmpAnswer
  rw [withInbox_seq]
  cases s.seq.phase with
  | cmpStatus => exact withInbox_ite Iff.rfl (withInbox_cmpStatus p _) rfl
  | cmpBurst => exact withInbox_ite Iff.rfl (withInbox_cmpCompute bytes) rfl
  | cmpClose c => exact withInbox_cmpEnd c
  | cmpOpen | cmpCal1 | cmpCal2 | cmpCal3 | cmpConfig | cmpCtrlHum | cmpCtrlMeas => exact withInbox_ite Iff.rfl rfl rfl
  | _ => rfl

theorem withInbox_busDone (p : Params) (r : BusReq) (ok : Bool) (bytes : List Byte) :
    (busDone p r ok bytes s).withInbox i = busDone p r ok bytes (s.withInbox i) := by
  simp only [busDone, withInbox_seq]
  split
  · exact withInbox_cmpAnswer p _ bytes
  · rfl

theorem withInbox_cmpTick (p : Params) : (cmpTick p s).withInbox i = cmpTick p (s.withInbox i) := by
  unfold cmpTick
  rw [withInbox_seq]
  split
  · exact withInbox_delayTick fun _ => rfl
  · rfl

/-! ### The line and LINE.WAIT -/

theorem withInbox_lwTick (sample : Bool) : (lwTick sample s).withInbox i = lwTick sample (s.withInbox i) := by
  unfold lwTick
  rw [withInbox_seq]
  split <;> rfl

theorem withInbox_writeLineCtrl (v : Word) : (writeLineCtrl v s).withInbox i = writeLineCtrl v (s.withInbox i) :=
  withInbox_ite Iff.rfl rfl rfl

/-! ### OW.READ -/

theorem withInbox_failAttempt (p : Params) (reason : ResultCode) (fp : OwPhase) (fb : BitVec 6) :
    (failAttempt p reason fp fb s).withInbox i = failAttempt p reason fp fb (s.withInbox i) :=
  withInbox_ite Iff.rfl rfl rfl

theorem withInbox_frameDone (p : Params) : (frameDone p s).withInbox i = frameDone p (s.withInbox i) :=
  withInbox_ite Iff.rfl rfl (withInbox_failAttempt p _ _ _)

theorem withInbox_storeBit (p : Params) (e : Nat) : (storeBit p e s).withInbox i = storeBit p e (s.withInbox i) :=
  withInbox_ite Iff.rfl rfl (withInbox_frameDone p)

theorem withInbox_owAdvance (p : Params) (ph : OwPhase) (e : Nat) :
    (owAdvance p ph e s).withInbox i = owAdvance p ph e (s.withInbox i) := by
  cases ph with
  | bitLow => exact withInbox_storeBit p e
  | _ => rfl

theorem withInbox_owWaitTick (p : Params) (ph : OwPhase) (sample : Bool) :
    (owWaitTick p ph sample s).withInbox i = owWaitTick p ph sample (s.withInbox i) := by
  unfold owWaitTick
  rw [withInbox_seq]
  split
  · exact withInbox_owAdvance p ph _
  · exact withInbox_failAttempt p _ _ _
  · rfl

theorem withInbox_owTick (p : Params) (sample : Bool) :
    (owTick p sample s).withInbox i = owTick p sample (s.withInbox i) := by
  unfold owTick
  rw [withInbox_seq]
  cases s.seq.phase with
  | ow ph =>
    cases ph with
    | idle => rfl
    | requestPulse | backoff => exact withInbox_delayTick fun _ => rfl
    | _ => exact withInbox_owWaitTick p _ sample
  | _ => rfl

/-! ### FS.READ -/

theorem withInbox_fsAnswer (ok : Bool) (n : Nat) : (fsAnswer ok n s).withInbox i = fsAnswer ok n (s.withInbox i) := by
  unfold fsAnswer
  rw [withInbox_seq]
  split
  · exact withInbox_ite Iff.rfl rfl rfl
  · exact withInbox_ite Iff.rfl rfl rfl
  · rfl

theorem withInbox_fsValidate : (fsValidate s).withInbox i = fsValidate (s.withInbox i) :=
  withInbox_ite Iff.rfl rfl (withInbox_ite Iff.rfl rfl rfl)

theorem withInbox_fsByte (b : Byte) : (fsByte b s).withInbox i = fsByte b (s.withInbox i) :=
  withInbox_ite Iff.rfl withInbox_fsValidate rfl

theorem withInbox_serRx (b : Byte) : (serRx b s).withInbox i = serRx b (s.withInbox i) := by
  unfold serRx
  rw [withInbox_seq]
  split
  · exact withInbox_fsByte b
  · rfl

theorem withInbox_serRxErr : (serRxErr s).withInbox i = serRxErr (s.withInbox i) := by
  unfold serRxErr
  rw [withInbox_seq]
  split <;> rfl

theorem withInbox_fsTick (p : Params) : (fsTick p s).withInbox i = fsTick p (s.withInbox i) := by
  unfold fsTick
  rw [withInbox_seq]
  split
  · exact withInbox_delayTick fun _ => rfl
  · rfl

theorem withInbox_serDone (r : SerReq) (ok : Bool) (n : Nat) :
    (serDone r ok n s).withInbox i = serDone r ok n (s.withInbox i) := by
  simp only [serDone, withInbox_seq]
  split
  · exact withInbox_fsAnswer ok n
  · rfl

/-! ### Events -/

theorem withInbox_tick (p : Params) (e : Bool) : (tick p e s).withInbox i = tick p e (s.withInbox i) := by
  cases h : s.seq.active with
  | none => rw [tick_of_idle h, tick_of_idle (s := s.withInbox i) h]; rfl
  | ow => rw [tick_of_ow h, tick_of_ow (s := s.withInbox i) h]; exact withInbox_owTick p _
  | fs => rw [tick_of_fs h, tick_of_fs (s := s.withInbox i) h]; exact withInbox_fsTick p
  | cmp => rw [tick_of_cmp h, tick_of_cmp (s := s.withInbox i) h]; exact withInbox_cmpTick p
  | lw => rw [tick_of_lw h, tick_of_lw (s := s.withInbox i) h]; exact withInbox_lwTick _

theorem withInbox_hostRead (w : AccessWidth) (off : BitVec 12) :
    (hostRead w off s).withInbox i = hostRead w off (s.withInbox i) := by
  unfold hostRead
  split <;> rfl

variable {t : State}

theorem exec_withInbox {c : Instr} (h : exec c s = .next t) : exec c (s.withInbox i) = .next (t.withInbox i) := by
  cases c <;> cases h <;> exact congrArg _ (withInbox_accept fun _ => rfl).symm

theorem writeCmd_withInbox {v : Word} (h : writeCmd v s = .next t) :
    writeCmd v (s.withInbox i) = .next (t.withInbox i) := by
  unfold writeCmd at h ⊢
  split at h
  · exact exec_withInbox h
  · cases h; exact congrArg _ (withInbox_rejectCommand v).symm

theorem writeReg_withInbox {r : Reg} {v : Word} (h : writeReg r v s = .next t) :
    writeReg r v (s.withInbox i) = .next (t.withInbox i) := by
  cases r with
  | cmd => exact writeCmd_withInbox h
  | lineCtrl => cases h; exact congrArg _ (withInbox_writeLineCtrl v).symm
  | _ => cases h; rfl

theorem hostWrite_withInbox {w : AccessWidth} {off : BitVec 12} {v : Word} (h : hostWrite w off v s = .next t) :
    hostWrite w off v (s.withInbox i) = .next (t.withInbox i) := by
  unfold hostWrite at h ⊢
  split at h
  · cases h; rfl
  · split at h
    · exact writeReg_withInbox h
    · cases h; rfl

/-- An event acts in the same way whatever is still to come. -/
theorem handleEvent_withInbox {p : Params} {e : Event} (h : handleEvent p e s = .next t) :
    handleEvent p e (s.withInbox i) = .next (t.withInbox i) := by
  cases e with
  | hostWrite w off v => exact hostWrite_withInbox h
  | hostRead w off => cases h; exact congrArg _ (withInbox_hostRead w off).symm
  | tick l => cases h; exact congrArg _ (withInbox_tick p l).symm
  | busDone ok bytes =>
    obtain ⟨r, hr⟩ := (handleEvent_busDone_next_iff p ok bytes s).mp ⟨t, h⟩
    rw [handleEvent_busDone hr] at h
    cases h
    rw [handleEvent_busDone (s := s.withInbox i) hr, withInbox_busDone]
  | serDone ok n =>
    obtain ⟨r, hr⟩ := (handleEvent_serDone_next_iff p ok n s).mp ⟨t, h⟩
    rw [handleEvent_serDone hr] at h
    cases h
    rw [handleEvent_serDone (s := s.withInbox i) hr, withInbox_serDone]
  | serRx b => cases h; exact congrArg _ (withInbox_serRx b).symm
  | serRxErr => cases h; exact congrArg _ withInbox_serRxErr.symm
  | reset => cases h; rfl

/-- No event changes what is still to come: it leaves the inbox of `s`, because `s` is itself with that inbox. -/
theorem handleEvent_inbox {p : Params} {e : Event} (h : handleEvent p e s = .next t) : t.inbox = s.inbox := by
  have same : handleEvent p e s = .next (t.withInbox s.inbox) := handleEvent_withInbox (i := s.inbox) h
  rw [h] at same
  injection same with ht
  rw [ht, withInbox_inbox]

/-! ### Runs -/

/-- A step takes the first event of the inbox and leaves the others, whatever they are. -/
theorem step_withInbox_cons {e : Event} (h : handleEvent Config.params e s = .next t) :
    step (s.withInbox (e :: i)) = .next (t.withInbox i) :=
  calc step (s.withInbox (e :: i))
    _ = handleEvent Config.params e (s.withInbox i) := step_of_inbox rfl
    _ = .next (t.withInbox i) := handleEvent_withInbox h

/-- A run of the machine goes on from where its first step ends. -/
theorem coreRun_succ {k : Nat} (h : step s = .next t) : Host.Core.run core (k + 1) s = Host.Core.run core k t := by
  have hstep : core.step s = .next t := h
  simp only [Host.Core.run, hstep]

/-- A run that answers a state took its first event. -/
theorem runEvents_cons_next {p : Params} {e : Event} {es : List Event} (h : runEvents p (e :: es) s = .next t) :
    ∃ u, handleEvent p e s = .next u ∧ runEvents p es u = .next t := by
  unfold runEvents at h
  split at h
  · exact ⟨_, ‹_›, h⟩
  · cases h
  · cases h

/-- A run over the events `es` is as many steps from the state in whose inbox they stand first. -/
theorem coreRun_of_runEvents {es : List Event} (h : runEvents Config.params es s = .next t) :
    Host.Core.run core es.length (s.withInbox (es ++ s.inbox)) = .next t := by
  induction es generalizing s with
  | nil => exact h
  | cons e es ih =>
    obtain ⟨u, he, hes⟩ := runEvents_cons_next h
    calc Host.Core.run core (es.length + 1) (s.withInbox (e :: (es ++ s.inbox)))
      _ = Host.Core.run core es.length (u.withInbox (es ++ s.inbox)) := coreRun_succ (step_withInbox_cons he)
      _ = Host.Core.run core es.length (u.withInbox (es ++ u.inbox)) := by rw [handleEvent_inbox he]
      _ = .next t := ih hes

end Inbox

/-- Settles O6: the run over `evs` keeps `rest` in the inbox, and the steps take `evs` from in front of it. -/
theorem runOfInboxIsRunOfEvents : Obligations.RunOfInboxIsRunOfEvents :=
  fun _ _ _ _ h => coreRun_of_runEvents h

end Sys2Proof.Machine
end

section
/-! PROOFS: every step keeps the invariant. Each operation of a unit is shown to lead from a part of the invariant back
to all of it: `Running` for a command wherever its control point is, `Attempt` for OW.READ with the line released,
`BusHeld` for CMP.READ with the bus port open. -/

namespace Sys2Proof.Machine

open Sys2Proof

/-- The constraints of R7, one by one. -/
theorem Params.wf_iff {p : Params} : p.wf = true ↔
    1 ≤ p.owTimeout ∧ p.owBit1Min ≤ p.owTimeout ∧ 1 ≤ p.owTReq ∧ 1 ≤ p.owBackoff ∧ 1 ≤ p.owAttempts ∧
    p.owAttempts ≤ 7 ∧ 1 ≤ p.cmpPollMax ∧ p.cmpPollMax ≤ 15 ∧ 1 ≤ p.serIbt := by
  simp [Params.wf, and_assoc]

/-! ### The invariant of an idle and of a running machine -/

/-- The ports as they stand at the control point `ph` (R75): which are open, and what is outstanding. -/
def portsAt (p : Params) (cfg : BitVec 15) (ph : Phase) : Ports := ⟨ph.holdsBus, ph.holdsSer, ph.request p cfg⟩

/-- What the invariant says while the command `a` runs, whatever its control point and the ports. -/
structure Running (p : Params) (a : Active) (s : State) : Prop where
  active : s.seq.active = a
  is_command : a ≠ .none
  busy : s.status.busy = true
  done : s.status.done = false
  result : s.status.result = .ok
  failure : FailureRecordInv s
  regs : RegsInv p s

section Invariant

variable {p : Params} {s t : State}

theorem Phase.eq_idle {ph : Phase} (h : ph.owner = .none) : ph = .idle := by
  cases ph <;> cases h
  rfl

theorem Phase.holdsSer_of_cmp {ph : Phase} (h : ph.owner = .cmp) : ph.holdsSer = false := by
  cases ph <;> cases h <;> rfl

theorem Phase.holdsBus_of_fs {ph : Phase} (h : ph.owner = .fs) : ph.holdsBus = false := by
  cases ph <;> cases h <;> rfl

theorem Inv.ports_eq (h : Inv p s) : s.ports = portsAt p s.cmp.cfg s.seq.phase := by
  rw [portsAt, ← h.request, ← h.bus_port, ← h.ser_port]

theorem Inv.running (h : Inv p s) {a : Active} (ha : s.seq.active = a) (hne : a ≠ .none) : Running p a s := by
  have hbusy : s.status.busy = true := by simp [h.busy_active, ha, hne]
  obtain ⟨hdone, hresult⟩ := h.done_busy hbusy
  exact ⟨ha, hne, hbusy, hdone, hresult, h.failure, h.regs⟩

theorem Inv.phase_idle (h : Inv p s) (hb : s.status.busy = false) : s.seq.phase = .idle := by
  have hactive : s.seq.active = .none := by simpa [hb] using h.busy_active
  exact Phase.eq_idle (h.phase_owner.symm.trans hactive)

/-- A running command at the control point `ph` meets the invariant if the ports and the counters do. -/
theorem Running.inv (h : Running p a t) (howner : t.seq.phase.owner = a)
    (hports : t.ports = portsAt p t.cmp.cfg t.seq.phase) (hphase : PhaseInv p t) : Inv p t where
  busy_active := by simp [h.busy, h.active, h.is_command]
  done_busy _ := ⟨h.done, h.result⟩
  phase_owner := by rw [h.active, howner]
  request := by rw [hports]; rfl
  bus_port := by rw [hports]; rfl
  ser_port := by rw [hports]; rfl
  phase := hphase
  failure := h.failure
  regs := h.regs

/-- A machine with nothing running and closed ports meets the invariant if its records and registers do. -/
theorem inv_of_idle (hbusy : t.status.busy = false) (hactive : t.seq.active = .none) (hidle : t.seq.phase = .idle)
    (hports : t.ports = ⟨false, false, .none⟩) (hfailure : FailureRecordInv t) (hregs : RegsInv p t) : Inv p t where
  busy_active := by simp [hbusy, hactive]
  done_busy hb := by simp [hbusy] at hb
  phase_owner := by rw [hactive, hidle]; rfl
  request := by rw [hports, hidle]; rfl
  bus_port := by rw [hports, hidle]; rfl
  ser_port := by rw [hports, hidle]; rfl
  phase := by rw [PhaseInv, hidle]; trivial
  failure := hfailure
  regs := hregs

/-- A command that ends with its ports closed keeps the invariant. -/
theorem inv_finish (c : ResultCode) (hports : s.ports = ⟨false, false, .none⟩) (hfailure : FailureRecordInv s)
    (hregs : RegsInv p s) : Inv p (finish c s) :=
  inv_of_idle rfl rfl rfl hports hfailure hregs

/-! ### Host writes and Reset -/

theorem failureRecordInv_of_none (hfr : s.ow.fr = .ok) (hfp : s.ow.fp = .idle) (hfb : s.ow.fb = 0) :
    FailureRecordInv s :=
  ⟨.inl hfr, .inl hfp, by rw [hfb]; decide⟩

theorem regsInv_reset (p : Params) : RegsInv p State.reset :=
  ⟨by decide, ⟨0, by decide⟩, by decide, Nat.zero_le _, by decide, Nat.zero_le _, by decide⟩

theorem inv_resetEvent (p : Params) (s : State) : Inv p (resetEvent s) :=
  inv_of_idle rfl rfl rfl rfl (failureRecordInv_of_none rfl rfl rfl) (regsInv_reset p)

theorem inv_setOverrun (h : Inv p s) : Inv p (setOverrun s) := { h with }

theorem inv_rejectCommand (v : Word) (h : Inv p s) : Inv p (rejectCommand v s) := by
  cases hb : s.status.busy with
  | true => rw [rejectCommand_of_busy hb]; exact inv_setOverrun h
  | false =>
    rw [rejectCommand_of_idle hb]
    exact { h with done_busy := fun hbusy => by simp [hb] at hbusy }

theorem cfgMask_reserved (c : BitVec 15) : c &&& cfgMask &&& ~~~cfgMask = 0 := by
  rw [BitVec.and_assoc]; simp

theorem inv_writeStatus (v : Word) (h : Inv p s) : Inv p (writeStatus v s) where
  __ := h
  done_busy hb := by
    obtain ⟨hdone, hresult⟩ := h.done_busy hb
    simp [hdone, hresult]

theorem inv_writeLineCtrl (v : Word) (h : Inv p s) : Inv p (writeLineCtrl v s) := by
  unfold writeLineCtrl
  split
  · exact h
  · have hidle : s.seq.phase = .idle := h.phase_idle (Bool.eq_false_of_not_eq_true ‹_›)
    exact { h with phase := by simp only [PhaseInv, hidle] }

theorem inv_writeCmpCfg (v : Word) (h : Inv p s) : Inv p (writeCmpCfg v s) := by
  obtain ⟨-, hrest⟩ := h.regs
  exact { h with regs := ⟨cfgMask_reserved _, hrest⟩ }

/-! ### Requests and acceptance -/

/-- A running CMP.READ that issues the request of its next control point keeps the invariant. -/
theorem Running.issueBus {r : BusReq} {ph : Phase} (h : Running p .cmp s)
    (hports : s.ports = ⟨ph.holdsBus, false, .none⟩) (howner : ph.owner = .cmp)
    (hreq : ph.request p s.cmp.cfg = .bus r) (hphase : PhaseInv p (issueBus r ph s)) : Inv p (issueBus r ph s) := by
  refine Running.inv (a := .cmp) { h with } howner ?_ hphase
  simp [portsAt, hports, Phase.holdsSer_of_cmp howner, hreq]

/-- A running FS.READ that issues the request of its next control point keeps the invariant. -/
theorem Running.issueSer {r : SerReq} {ph : Phase} (h : Running p .fs s)
    (hports : s.ports = ⟨false, ph.holdsSer, .none⟩) (howner : ph.owner = .fs)
    (hreq : ph.request p s.cmp.cfg = .ser r) (hphase : PhaseInv p (issueSer r ph s)) : Inv p (issueSer r ph s) := by
  refine Running.inv (a := .fs) { h with } howner ?_ hphase
  simp [portsAt, hports, Phase.holdsBus_of_fs howner, hreq]

theorem inv_exec {i : Instr} (h : Inv p s) (hexec : exec i s = .next t) : Inv p t := by
  cases hb : s.status.busy with
  | true =>
    rw [exec_of_busy hb] at hexec
    cases hexec
    exact inv_setOverrun h
  | false =>
    have hports : s.ports = ⟨false, false, .none⟩ := by rw [h.ports_eq, h.phase_idle hb]; rfl
    cases i with
    | owRead =>
      cases hexec
      rw [accept_of_idle hb]
      have hfailure := failureRecordInv_of_none (s := owStart s) rfl rfl rfl
      exact Running.inv (a := .ow) ⟨rfl, nofun, rfl, rfl, rfl, hfailure, h.regs⟩ rfl hports rfl
    | fsRead =>
      cases hexec
      rw [accept_of_idle hb]
      exact Running.issueSer ⟨rfl, nofun, rfl, rfl, rfl, h.failure, h.regs⟩ hports rfl rfl trivial
    | cmpRead =>
      cases hexec
      rw [accept_of_idle hb]
      exact Running.issueBus ⟨rfl, nofun, rfl, rfl, rfl, h.failure, h.regs⟩ hports rfl rfl ⟨rfl, rfl⟩
    | lineWait level timeout =>
      cases hexec
      rw [accept_of_idle hb]
      exact Running.inv (a := .lw) ⟨rfl, nofun, rfl, rfl, rfl, h.failure, h.regs⟩ rfl hports (Nat.zero_le _)

theorem inv_writeCmd {v : Word} (h : Inv p s) (hwrite : writeCmd v s = .next t) : Inv p t := by
  unfold writeCmd at hwrite
  split at hwrite
  · exact inv_exec h hwrite
  · cases hwrite; exact inv_rejectCommand v h

theorem inv_writeReg {r : Reg} {v : Word} (h : Inv p s) (hwrite : writeReg r v s = .next t) : Inv p t := by
  cases r with
  | cmd => exact inv_writeCmd h hwrite
  | status => cases hwrite; exact inv_writeStatus v h
  | intEn => cases hwrite; exact { h with }
  | lineCtrl => cases hwrite; exact inv_writeLineCtrl v h
  | cmpCfg => cases hwrite; exact inv_writeCmpCfg v h
  | _ => cases hwrite; exact h

/-! ### LINE.WAIT -/

theorem Phase.eq_lwWait {ph : Phase} (h : ph.owner = .lw) : ph = .lwWait := by
  cases ph <;> cases h
  rfl

theorem inv_lwTick (sample : Bool) (h : Inv p s) (ha : s.seq.active = .lw) : Inv p (lwTick sample s) := by
  have hph : s.seq.phase = .lwWait := Phase.eq_lwWait (h.phase_owner.symm.trans ha)
  have hports : s.ports = ⟨false, false, .none⟩ := by rw [h.ports_eq, hph]; rfl
  unfold lwTick
  obtain ⟨-, hw⟩ | ⟨-, -, hw⟩ | ⟨-, hk, hw⟩ := waitEval_cases s.seq.lwLevel s.seq.lwTimeout.toNat s.seq.k sample
  · rw [hw]; exact inv_finish .ok hports h.failure h.regs
  · rw [hw]; exact inv_finish .timeout hports h.failure h.regs
  · rw [hw]
    exact { h with phase := by simp only [PhaseInv, countOn_seq, hph]; omega }

/-! ### FS.READ -/

/-- FS.READ ends with any code from a state in which the serial port is open: it closes the port first (R350). -/
theorem Running.inv_fsClose (h : Running p .fs s) (hports : s.ports = ⟨false, true, .none⟩) (v : BitVec 16)
    (c : ResultCode) : Inv p (fsFinish v c (serClose s)) :=
  inv_finish c (by simp [hports]) h.failure h.regs

theorem inv_fsAnswer_open {ok : Bool} (n : Nat) (h : Running p .fs s) (hph : s.seq.phase = .fsOpen)
    (hports : s.ports = ⟨false, ok, .none⟩) : Inv p (fsAnswer ok n s) := by
  simp only [fsAnswer, hph]
  cases ok with
  | true => exact h.issueSer hports rfl rfl trivial
  | false => exact inv_finish _ hports h.failure h.regs

theorem inv_fsAnswer_write (hwf : p.wf = true) (ok : Bool) (n : Nat) (h : Running p .fs s)
    (hph : s.seq.phase = .fsWrite) (hports : s.ports = ⟨false, true, .none⟩) : Inv p (fsAnswer ok n s) := by
  have hibt : 1 ≤ p.serIbt := by rw [Params.wf_iff] at hwf; omega
  simp only [fsAnswer, hph]
  split
  · exact Running.inv (a := .fs) { h with } rfl hports ⟨hibt, Nat.zero_lt_succ 8⟩
  · exact h.inv_fsClose hports _ _

theorem Phase.request_eq_ser {cfg : BitVec 15} {ph : Phase} {r : SerReq} (h : ph.request p cfg = .ser r) :
    (ph = .fsOpen ∧ r = .openPort) ∨ (ph = .fsWrite ∧ r = .write commandFrame) := by
  cases ph <;> cases h
  · exact .inl ⟨rfl, rfl⟩
  · exact .inr ⟨rfl, rfl⟩

theorem inv_serDone (hwf : p.wf = true) {r : SerReq} (ok : Bool) (n : Nat) (h : Inv p s)
    (hr : s.ports.pending = .ser r) : Inv p (serDone r ok n s) := by
  have hports := h.ports_eq
  obtain ⟨hph, rfl⟩ | ⟨hph, rfl⟩ := Phase.request_eq_ser (h.request.symm.trans hr)
  all_goals
    have ha : s.seq.active = .fs := by rw [h.phase_owner, hph]; rfl
    rw [hph] at hports
    simp only [serDone, ha, hports]
  · exact inv_fsAnswer_open n { h.running ha nofun with } hph (by simp [portsAt, Phase.holdsBus, Phase.holdsSer])
  · exact inv_fsAnswer_write hwf ok n { h.running ha nofun with } hph rfl

theorem inv_fsValidate (h : Running p .fs s) (hports : s.ports = ⟨false, true, .none⟩) : Inv p (fsValidate s) := by
  unfold fsValidate
  split
  · exact h.inv_fsClose hports _ _
  · split <;> exact h.inv_fsClose hports _ _

/-- What the invariant says of FS.READ while it receives (R342). -/
theorem Inv.receiving (h : Inv p s) (hph : s.seq.phase = .fsReceive) :
    Running p .fs s ∧ s.ports = ⟨false, true, .none⟩ ∧ s.seq.k < p.serIbt ∧ s.fs.nrx.toNat < 9 := by
  have ha : s.seq.active = .fs := by rw [h.phase_owner, hph]; rfl
  have hphase := h.phase
  rw [PhaseInv, hph] at hphase
  exact ⟨h.running ha nofun, by rw [h.ports_eq, hph]; rfl, hphase⟩

theorem inv_fsByte (b : Byte) (h : Inv p s) (hph : s.seq.phase = .fsReceive) : Inv p (fsByte b s) := by
  obtain ⟨hrun, hports, hk, hn⟩ := h.receiving hph
  dsimp only [fsByte]
  split
  · exact inv_fsValidate { hrun with } hports
  · have hnext : s.fs.nrx.toNat + 1 < 9 := by bv_omega
    have hcount : (s.fs.nrx + 1).toNat < 9 := by bv_omega
    exact { h with phase := by simp only [PhaseInv, hph]; exact ⟨Nat.zero_lt_of_lt hk, hcount⟩ }

theorem inv_serRx (b : Byte) (h : Inv p s) : Inv p (serRx b s) := by
  unfold serRx
  split
  · exact inv_fsByte b h ‹_›
  · exact h

theorem inv_serRxErr (h : Inv p s) : Inv p (serRxErr s) := by
  unfold serRxErr
  split
  · obtain ⟨hrun, hports, -, -⟩ := h.receiving ‹_›
    exact hrun.inv_fsClose hports _ _
  · exact h

theorem inv_fsTick (h : Inv p s) : Inv p (fsTick p s) := by
  unfold fsTick
  split
  · rename_i hph
    obtain ⟨hrun, hports, hk, hn⟩ := h.receiving hph
    obtain ⟨-, ht⟩ | ⟨hlt, ht⟩ := delayTick_cases p.serIbt (fun t => fsFinish 0 .timeout (serClose t)) s
    · rw [ht]
      exact Running.inv_fsClose (s := countOn s) { hrun with } hports _ _
    · rw [ht]
      exact { h with phase := by simp only [PhaseInv, hph]; exact ⟨hlt, hn⟩ }
  · exact h

/-! ### OW.READ -/

theorem portsAt_of_ow {cfg : BitVec 15} {ph : Phase} (h : ph.owner = .ow) :
    portsAt p cfg ph = ⟨false, false, .none⟩ := by
  cases ph <;> cases h <;> rfl

theorem phaseInv_requestPulse_iff (h : s.seq.phase = .ow .requestPulse) :
    PhaseInv p s ↔ 1 ≤ s.ow.attempt.toNat ∧ s.ow.attempt.toNat ≤ p.owAttempts ∧ s.line.out = false ∧
      s.line.mode = true ∧ s.seq.k < p.owTReq ∧ s.ow.bitidx.toNat < 40 := by
  simp [PhaseInv, h, OwPhase.isWait]

theorem phaseInv_backoff_iff (h : s.seq.phase = .ow .backoff) :
    PhaseInv p s ↔ 1 ≤ s.ow.attempt.toNat ∧ s.ow.attempt.toNat ≤ p.owAttempts ∧ s.line.out = false ∧
      s.line.mode = false ∧ s.seq.k < p.owBackoff ∧ s.ow.attempt.toNat < p.owAttempts := by
  simp [PhaseInv, h, OwPhase.isWait]

theorem phaseInv_wait_iff {ph : OwPhase} (h : s.seq.phase = .ow ph) (hw : ph.isWait = true) :
    PhaseInv p s ↔ 1 ≤ s.ow.attempt.toNat ∧ s.ow.attempt.toNat ≤ p.owAttempts ∧ s.line.out = false ∧
      s.line.mode = false ∧ (1 ≤ s.seq.k ∧ s.seq.k ≤ p.owTimeout) ∧ s.ow.bitidx.toNat < 40 := by
  obtain ⟨hidle, hpulse, hback⟩ : ph ≠ .idle ∧ ph ≠ .requestPulse ∧ ph ≠ .backoff := of_decide_eq_true hw
  simp [PhaseInv, h, hw, hidle, hpulse, hback]

/-- An attempt of OW.READ: the line is released, the ports are closed, and the attempt's number is in its range. -/
structure Attempt (p : Params) (s : State) : Prop extends Running p .ow s where
  ports : s.ports = ⟨false, false, .none⟩
  attempt_pos : 1 ≤ s.ow.attempt.toNat
  attempt_le : s.ow.attempt.toNat ≤ p.owAttempts
  out : s.line.out = false
  mode : s.line.mode = false

theorem Attempt.inv_enterWait (h : Attempt p s) {ph : OwPhase} (hwf : p.wf = true) (hw : ph.isWait = true)
    (hbit : s.ow.bitidx.toNat < 40) : Inv p (enterWait ph s) := by
  have htimeout : 1 ≤ p.owTimeout := by rw [Params.wf_iff] at hwf; omega
  refine Running.inv (a := .ow) { h.toRunning with } rfl (h.ports.trans (portsAt_of_ow rfl).symm) ?_
  exact (phaseInv_wait_iff rfl hw).mpr ⟨h.attempt_pos, h.attempt_le, h.out, h.mode, ⟨le_rfl, htimeout⟩, hbit⟩

/-- An attempt begins in the event that drives the line low (R232). -/
theorem inv_beginAttempt (hwf : p.wf = true) (h : Running p .ow s) (hports : s.ports = ⟨false, false, .none⟩)
    (hlt : s.ow.attempt.toNat < p.owAttempts) : Inv p (beginAttempt s) := by
  have hlim : 1 ≤ p.owTReq ∧ p.owAttempts ≤ 7 := by rw [Params.wf_iff] at hwf; omega
  have hnext : (s.ow.attempt + 1).toNat = s.ow.attempt.toNat + 1 := by bv_omega
  refine Running.inv (a := .ow) ⟨h.active, nofun, h.busy, h.done, h.result, h.failure, h.regs⟩ rfl
    (hports.trans (portsAt_of_ow rfl).symm) ?_
  refine (phaseInv_requestPulse_iff rfl).mpr ⟨?_, ?_, rfl, rfl, ?_, ?_⟩
  · rw [beginAttempt_ow, hnext]; omega
  · rw [beginAttempt_ow, hnext]; omega
  · exact hlim.1
  · exact Nat.zero_lt_succ 39

theorem owStatWord_attempts (s : State) : (owStatWord s).extractLsb' 0 3 = s.ow.attempt :=
  BitVec.extractLsb'_append_eq_right

theorem owStatWord_reserved (s : State) : (owStatWord s).getLsbD 3 = false :=
  calc (owStatWord s).getLsbD 3
    _ = (s.ow.fb ++ s.ow.fp.code ++ s.ow.fr.code ++ 0#1).getLsbD 0 := BitVec.getLsbD_append
    _ = (0#1).getLsbD 0 := BitVec.getLsbD_append

theorem RegsInv.with_owRegs (h : RegsInv p s) {r : OwRegs} (hattempts : (r.stat.extractLsb' 0 3).toNat ≤ p.owAttempts)
    (hreserved : r.stat.getLsbD 3 = false) : RegsInv p { s with owRegs := r } := by
  obtain ⟨hcfg, htemp, hhum, hpolls, hzeros, -, -⟩ := h
  exact ⟨hcfg, htemp, hhum, hpolls, hzeros, hattempts, hreserved⟩

theorem Attempt.inv_owSucceed (h : Attempt p s) : Inv p (owSucceed s) :=
  inv_finish .ok h.ports h.failure
    (h.regs.with_owRegs (by rw [owStatWord_attempts]; exact h.attempt_le) (owStatWord_reserved s))

theorem Attempt.inv_owExhaust (h : Attempt p s) : Inv p (owExhaust s) :=
  inv_finish .retriesExhausted h.ports h.failure
    (h.regs.with_owRegs (by rw [owStatWord_attempts]; exact h.attempt_le) (owStatWord_reserved s))

/-- A failed attempt leaves its failure record, and the command ends or backs off. -/
theorem Attempt.inv_failAttempt (h : Attempt p s) (hwf : p.wf = true) {reason : ResultCode} {fp : OwPhase}
    {fb : BitVec 6} (hreason : reason = .ok ∨ reason = .timeout ∨ reason = .checksumMismatch)
    (hfp : fp = .idle ∨ fp.isWait = true) (hfb : fb.toNat < 40) : Inv p (failAttempt p reason fp fb s) := by
  have hback : 1 ≤ p.owBackoff := by rw [Params.wf_iff] at hwf; omega
  have hrec : Attempt p { s with ow := { s.ow with fr := reason, fp := fp, fb := fb } } :=
    { h with failure := ⟨hreason, hfp, hfb⟩ }
  obtain ⟨-, hf⟩ | ⟨hne, hf⟩ := failAttempt_cases p reason fp fb s
  · rw [hf]
    exact hrec.inv_owExhaust
  · rw [hf]
    refine Running.inv (a := .ow) { hrec.toRunning with } rfl (h.ports.trans (portsAt_of_ow rfl).symm) ?_
    have hlt : s.ow.attempt.toNat < p.owAttempts := lt_of_le_of_ne h.attempt_le hne
    exact (phaseInv_backoff_iff rfl).mpr ⟨h.attempt_pos, h.attempt_le, h.out, h.mode, hback, hlt⟩

theorem Attempt.inv_owTimeout (h : Attempt p s) (hwf : p.wf = true) {ph : OwPhase} (hw : ph.isWait = true)
    (hbit : s.ow.bitidx.toNat < 40) : Inv p (owTimeout p ph s) := by
  refine h.inv_failAttempt hwf (.inr (.inl rfl)) (.inr hw) ?_
  split
  · exact hbit
  · decide

theorem Attempt.inv_frameDone (h : Attempt p s) (hwf : p.wf = true) : Inv p (frameDone p s) := by
  unfold frameDone
  split
  · exact h.inv_owSucceed
  · exact h.inv_failAttempt hwf (.inr (.inr rfl)) (.inl rfl) (by decide)

theorem Attempt.inv_storeBit (h : Attempt p s) (hwf : p.wf = true) (e : Nat) : Inv p (storeBit p e s) := by
  dsimp only [storeBit]
  split
  · refine Attempt.inv_enterWait ?_ hwf rfl ‹_›
    exact { h with }
  · refine Attempt.inv_frameDone ?_ hwf
    exact { h with }

theorem Attempt.inv_owAdvance (h : Attempt p s) (hwf : p.wf = true) {ph : OwPhase} (hw : ph.isWait = true) (e : Nat)
    (hbit : s.ow.bitidx.toNat < 40) : Inv p (owAdvance p ph e s) := by
  cases ph with
  | bitLow => exact h.inv_storeBit hwf e
  | releaseHigh | ackLow | ackHigh | ackLow2 | bitHigh => exact h.inv_enterWait hwf rfl hbit
  | idle | requestPulse | backoff => cases hw

/-- OW.READ with the invariant, in any of its phases. -/
theorem Inv.running_ow (h : Inv p s) (howner : s.seq.phase.owner = .ow) :
    Running p .ow s ∧ s.ports = ⟨false, false, .none⟩ := by
  have ha : s.seq.active = .ow := h.phase_owner.trans howner
  exact ⟨h.running ha nofun, by rw [h.ports_eq, portsAt_of_ow howner]⟩

theorem inv_owWaitTick (hwf : p.wf = true) (h : Inv p s) {ph : OwPhase} (hph : s.seq.phase = .ow ph)
    (hw : ph.isWait = true) (sample : Bool) : Inv p (owWaitTick p ph sample s) := by
  obtain ⟨hrun, hports⟩ := h.running_ow (by rw [hph]; rfl)
  obtain ⟨hpos, hle, hout, hmode, ⟨hk, -⟩, hbit⟩ := (phaseInv_wait_iff hph hw).mp h.phase
  have hatt : Attempt p s := ⟨hrun, hports, hpos, hle, hout, hmode⟩
  unfold owWaitTick
  obtain ⟨-, he⟩ | ⟨-, -, he⟩ | ⟨-, hlt, he⟩ := waitEval_cases ph.level p.owTimeout s.seq.k sample
  · rw [he]
    exact hatt.inv_owAdvance hwf hw _ hbit
  · rw [he]
    exact hatt.inv_owTimeout hwf hw hbit
  · rw [he]
    have hcount : 1 ≤ s.seq.k + 1 ∧ s.seq.k + 1 ≤ p.owTimeout := by omega
    exact { h with phase := (phaseInv_wait_iff (s := countOn s) hph hw).mpr ⟨hpos, hle, hout, hmode, hcount, hbit⟩ }

theorem inv_requestPulseTick (hwf : p.wf = true) (h : Inv p s) (hph : s.seq.phase = .ow .requestPulse) :
    Inv p (delayTick p.owTReq releaseLine s) := by
  obtain ⟨hrun, hports⟩ := h.running_ow (by rw [hph]; rfl)
  obtain ⟨hpos, hle, hout, hmode, -, hbit⟩ := (phaseInv_requestPulse_iff hph).mp h.phase
  obtain ⟨-, ht⟩ | ⟨hlt, ht⟩ := delayTick_cases p.owTReq releaseLine s
  · rw [ht]
    have hatt : Attempt p (setDirection false (countOn s)) := ⟨{ hrun with }, hports, hpos, hle, hout, rfl⟩
    exact hatt.inv_enterWait hwf rfl hbit
  · rw [ht]
    exact { h with phase := (phaseInv_requestPulse_iff (s := countOn s) hph).mpr ⟨hpos, hle, hout, hmode, hlt, hbit⟩ }

theorem inv_backoffTick (hwf : p.wf = true) (h : Inv p s) (hph : s.seq.phase = .ow .backoff) :
    Inv p (delayTick p.owBackoff beginAttempt s) := by
  obtain ⟨hrun, hports⟩ := h.running_ow (by rw [hph]; rfl)
  obtain ⟨hpos, hle, hout, hmode, -, hatt⟩ := (phaseInv_backoff_iff hph).mp h.phase
  obtain ⟨-, ht⟩ | ⟨hlt, ht⟩ := delayTick_cases p.owBackoff beginAttempt s
  · rw [ht]
    exact inv_beginAttempt (s := countOn s) hwf { hrun with } hports hatt
  · rw [ht]
    exact { h with phase := (phaseInv_backoff_iff (s := countOn s) hph).mpr ⟨hpos, hle, hout, hmode, hlt, hatt⟩ }

theorem inv_owTick (hwf : p.wf = true) (sample : Bool) (h : Inv p s) : Inv p (owTick p sample s) := by
  unfold owTick
  split
  · rename_i hph
    obtain ⟨hrun, hports⟩ := h.running_ow (by rw [hph]; rfl)
    have hzero : s.ow.attempt = 0 := by simpa [PhaseInv, hph] using h.phase
    have hpos : 1 ≤ p.owAttempts := by rw [Params.wf_iff] at hwf; omega
    exact inv_beginAttempt hwf hrun hports (by rw [hzero]; exact hpos)
  · exact inv_requestPulseTick hwf h ‹_›
  · exact inv_backoffTick hwf h ‹_›
  case h_10 => exact h
  all_goals exact inv_owWaitTick hwf h ‹_› rfl sample

/-! ### CMP.READ -/

/-- CMP.READ between the answer of one request and the next one, with the bus port open. -/
structure BusHeld (p : Params) (s : State) : Prop extends Running p .cmp s where
  ports : s.ports = ⟨true, false, .none⟩

/-- The control points at which CMP.READ awaits the answer to a read or a write (R283, R287 to R289). -/
def Phase.inTransfer : Phase → Bool
  | .cmpCal1 => true
  | .cmpCal2 => true
  | .cmpCal3 => true
  | .cmpConfig => true
  | .cmpCtrlHum => true
  | .cmpCtrlMeas => true
  | .cmpStatus => true
  | .cmpBurst => true
  | _ => false

theorem cmpStatWord_polls (s : State) : (cmpStatWord s).extractLsb' 0 4 = s.cmp.polls :=
  BitVec.extractLsb'_append_eq_right

theorem cmpStatWord_reserved (s : State) : (cmpStatWord s).extractLsb' 4 4 = 0 :=
  calc (cmpStatWord s).extractLsb' 4 4
    _ = (BitVec.ofBool s.cmp.pbr ++ 0#4).extractLsb' 0 4 := BitVec.extractLsb'_append_eq_of_le (by decide)
    _ = 0 := BitVec.extractLsb'_append_eq_right

/-- CMP_TEMP is a 16-bit number, sign-extended (R62, R291). -/
theorem u32_compTemp (tf : Int) : ∃ v : BitVec 16, u32 (compTemp tf) = v.signExtend 32 :=
  ⟨BitVec.ofInt 16 (asr (w32 (w32 (tf * 5) + 128)) 8), by
    rw [BitVec.signExtend, BitVec.toInt_ofInt]
    rfl⟩

theorem u32_compHum_le (c : Coeffs) (adcH tf : Int) : (u32 (compHum c adcH tf)).toNat ≤ 100000 := by
  obtain ⟨hlo, hhi⟩ : 0 ≤ compHum c adcH tf ∧ compHum c adcH tf ≤ 100000 := clampHum_range _
  simp only [u32, BitVec.toNat_ofInt]
  omega

/-- New compensation results in their ranges keep the registers legal if CMP_STAT is the engine's word (R307). -/
theorem RegsInv.with_cmpRegs (h : RegsInv p s) (hpolls : s.cmp.polls.toNat ≤ p.cmpPollMax) {r : CmpRegs}
    (htemp : ∃ v : BitVec 16, r.temp = v.signExtend 32) (hhum : r.hum.toNat ≤ 100000) (hstat : r.stat = cmpStatWord s) :
    RegsInv p { s with cmpRegs := r } := by
  obtain ⟨hcfg, -, -, -, -, howStat⟩ := h
  refine ⟨hcfg, htemp, hhum, ?_, ?_, howStat⟩
  · rw [hstat, cmpStatWord_polls]; exact hpolls
  · rw [hstat, cmpStatWord_reserved]

section CmpEnd

variable (h : Running p .cmp s) (hports : s.ports = ⟨false, false, .none⟩) (hpolls : s.cmp.polls.toNat ≤ p.cmpPollMax)
include h hports hpolls

theorem Running.inv_cmpFail (c : ResultCode) : Inv p (cmpFail c s) :=
  inv_finish c hports h.failure (h.regs.with_cmpRegs hpolls ⟨0, rfl⟩ (Nat.zero_le _) rfl)

theorem Running.inv_cmpSucceed : Inv p (cmpSucceed s) :=
  inv_finish .ok hports h.failure (h.regs.with_cmpRegs hpolls (u32_compTemp _) (u32_compHum_le _ _ _) rfl)

theorem Running.inv_cmpEnd (c : ResultCode) : Inv p (cmpEnd c s) := by
  cases c with
  | ok => exact h.inv_cmpSucceed hports hpolls
  | _ => exact h.inv_cmpFail hports hpolls _

end CmpEnd

/-- A measurement that failed closes the bus port with one of its codes. -/
theorem BusHeld.inv_cmpClose (h : BusHeld p s) {c : ResultCode} (hcode : mayEndWith .cmp c = true) (hne : c ≠ .ok)
    (hpbr : s.cmp.pbr = false) (hpolls : s.cmp.polls.toNat ≤ p.cmpPollMax) : Inv p (cmpClose c s) :=
  h.issueBus h.ports rfl rfl ⟨hcode, fun _ => hpbr, hpolls, fun hok => absurd hok hne⟩

/-- A status read is issued while the limit of R288 allows one more. -/
theorem BusHeld.inv_cmpPoll (h : BusHeld p s) (hwf : p.wf = true) (hpbr : s.cmp.pbr = false)
    (hlt : s.cmp.polls.toNat < p.cmpPollMax) : Inv p (cmpPoll p s) := by
  have hmax : p.cmpPollMax ≤ 15 := by rw [Params.wf_iff] at hwf; omega
  have hnext : (s.cmp.polls + 1).toNat = s.cmp.polls.toNat + 1 := by bv_omega
  have hpolls : 1 ≤ (s.cmp.polls + 1).toNat ∧ (s.cmp.polls + 1).toNat ≤ p.cmpPollMax := by omega
  exact Running.issueBus { h.toRunning with } h.ports rfl rfl ⟨hpbr, hpolls⟩

theorem BusHeld.inv_cmpStatus (h : BusHeld p s) (hwf : p.wf = true) (st : Byte) (hpbr : s.cmp.pbr = false)
    (hpos : 1 ≤ s.cmp.polls.toNat) (hpolls : s.cmp.polls.toNat ≤ p.cmpPollMax) : Inv p (cmpStatus p st s) := by
  unfold cmpStatus
  split
  · exact h.issueBus h.ports rfl rfl ⟨hpbr, hpos, hpolls⟩
  · split
    · exact h.inv_cmpClose rfl nofun hpbr hpolls
    · have hlt : s.cmp.polls.toNat < p.cmpPollMax := Nat.lt_of_not_le ‹_›
      split
      · exact h.inv_cmpPoll hwf hpbr hlt
      · exact Running.inv (a := .cmp) { h.toRunning with } rfl h.ports ⟨hpbr, Nat.pos_of_ne_zero ‹_›, hpos, hlt⟩

theorem sext_u32_compTFine (c : Coeffs) (adcT : Int) : sext (u32 (compTFine c adcT)) = compTFine c adcT := by
  obtain ⟨hlo, hhi⟩ := compTFine_range c adcT
  exact sext_u32 hlo hhi

theorem BusHeld.inv_cmpCompute (h : BusHeld p s) (bytes : List Byte) (hpolls : s.cmp.polls.toNat ≤ p.cmpPollMax) :
    Inv p (cmpCompute bytes s) := by
  dsimp only [cmpCompute]
  split
  · refine BusHeld.inv_cmpClose ?_ rfl nofun rfl hpolls
    exact { h with }
  · rename_i hpres
    refine Running.issueBus { h.toRunning with } h.ports rfl rfl ⟨rfl, nofun, hpolls, fun _ => ?_⟩
    simp [sext_u32_compTFine, hpres]

/-- A transfer that fails closes the port and ends TRANSPORT_UNAVAILABLE, at whichever control point (R121, R300). -/
theorem cmpAnswer_of_failed (bytes : List Byte) (ht : s.seq.phase.inTransfer = true) :
    cmpAnswer p false bytes s = cmpClose .transportUnavailable s := by
  unfold cmpAnswer
  generalize s.seq.phase = ph at ht ⊢
  cases ph <;> cases ht <;> rfl

/-- While a transfer runs, no branch is noted and the polls are within their limit. -/
theorem phaseInv_inTransfer (h : PhaseInv p s) (ht : s.seq.phase.inTransfer = true) :
    s.cmp.pbr = false ∧ s.cmp.polls.toNat ≤ p.cmpPollMax := by
  unfold PhaseInv at h
  split at h
  all_goals
    rename_i hph
    simp_all [Phase.inTransfer]

theorem BusHeld.inv_cmpAnswer (h : BusHeld p s) (hwf : p.wf = true) (hphase : PhaseInv p s)
    (ht : s.seq.phase.inTransfer = true) (good : Bool) (bytes : List Byte) : Inv p (cmpAnswer p good bytes s) := by
  obtain ⟨hpbr, hpolls⟩ := phaseInv_inTransfer hphase ht
  cases good with
  | false =>
    rw [cmpAnswer_of_failed bytes ht]
    exact h.inv_cmpClose rfl nofun hpbr hpolls
  | true =>
    unfold PhaseInv at hphase
    unfold cmpAnswer
    cases hph : s.seq.phase <;> rw [hph] at hphase ht
    case cmpCal1 | cmpCal2 | cmpCal3 => exact Running.issueBus { h.toRunning with } h.ports rfl rfl hphase
    case cmpConfig | cmpCtrlHum => exact h.issueBus h.ports rfl rfl hphase
    case cmpCtrlMeas =>
      obtain ⟨hzero, -⟩ := hphase
      have hpos : 1 ≤ p.cmpPollMax := by rw [Params.wf_iff] at hwf; omega
      exact h.inv_cmpPoll hwf hpbr (by rw [hzero]; exact hpos)
    case cmpStatus =>
      obtain ⟨-, hpos, -⟩ := hphase
      exact h.inv_cmpStatus hwf _ hpbr hpos hpolls
    case cmpBurst => exact h.inv_cmpCompute bytes hpolls
    all_goals cases ht

/-- A bus request is outstanding where the port opens, in a transfer, which leaves the port as it is, and where the port
closes. -/
theorem Phase.request_eq_bus {cfg : BitVec 15} {ph : Phase} {r : BusReq} (h : ph.request p cfg = .bus r) :
    (ph = .cmpOpen ∧ ∃ addr, r = .openDev addr) ∨
    (ph.inTransfer = true ∧ ∀ good before, busOpenAfter r good before = before) ∨
    ((∃ c, ph = .cmpClose c) ∧ r = .closeDev) := by
  cases ph <;> cases h
  case cmpOpen => exact .inl ⟨rfl, _, rfl⟩
  case cmpClose c => exact .inr (.inr ⟨⟨c, rfl⟩, rfl⟩)
  all_goals exact .inr (.inl ⟨rfl, fun _ _ => rfl⟩)

theorem Phase.owner_of_bus {cfg : BitVec 15} {ph : Phase} {r : BusReq} (h : ph.request p cfg = .bus r) :
    ph.owner = .cmp := by
  cases ph <;> cases h <;> rfl

theorem Phase.holdsBus_of_inTransfer {ph : Phase} (h : ph.inTransfer = true) : ph.holdsBus = true := by
  cases ph <;> cases h <;> rfl

theorem inv_cmpAnswer_open (good : Bool) (bytes : List Byte) (h : Running p .cmp s) (hph : s.seq.phase = .cmpOpen)
    (hports : s.ports = ⟨good, false, .none⟩) (hphase : PhaseInv p s) : Inv p (cmpAnswer p good bytes s) := by
  obtain ⟨hpolls, hpbr⟩ : s.cmp.polls = 0 ∧ s.cmp.pbr = false := by simpa [PhaseInv, hph] using hphase
  simp only [cmpAnswer, hph]
  cases good with
  | true => exact h.issueBus hports rfl rfl ⟨hpolls, hpbr⟩
  | false => exact h.inv_cmpFail hports (by rw [hpolls]; exact Nat.zero_le _) _

theorem inv_cmpAnswer_close (good : Bool) (bytes : List Byte) {c : ResultCode} (h : Running p .cmp s)
    (hph : s.seq.phase = .cmpClose c) (hports : s.ports = ⟨false, false, .none⟩) (hphase : PhaseInv p s) :
    Inv p (cmpAnswer p good bytes s) := by
  rw [PhaseInv, hph] at hphase
  obtain ⟨-, -, hpolls, -⟩ := hphase
  simp only [cmpAnswer, hph]
  exact h.inv_cmpEnd hports hpolls c

/-- CMP.READ's answered request is no longer pending, and the serial port stands closed. -/
theorem Inv.busDone_eq (h : Inv p s) (howner : s.seq.phase.owner = .cmp) (r : BusReq) (ok : Bool) (bytes : List Byte) :
    busDone p r ok bytes s = cmpAnswer p (busGood r ok bytes) bytes { s with ports :=
      ⟨busOpenAfter r (busGood r ok bytes) s.seq.phase.holdsBus, false, .none⟩ } := by
  rw [busDone_of_cmp (h.phase_owner.trans howner), ← h.bus_port, ← Phase.holdsSer_of_cmp howner, ← h.ser_port]

theorem inv_busDone (hwf : p.wf = true) {r : BusReq} (ok : Bool) (bytes : List Byte) (h : Inv p s)
    (hr : s.ports.pending = .bus r) : Inv p (busDone p r ok bytes s) := by
  have howner : s.seq.phase.owner = .cmp := Phase.owner_of_bus (h.request.symm.trans hr)
  have hrun : Running p .cmp s := h.running (h.phase_owner.trans howner) nofun
  rw [h.busDone_eq howner]
  obtain ⟨hph, addr, rfl⟩ | ⟨ht, hsame⟩ | ⟨⟨c, hph⟩, rfl⟩ := Phase.request_eq_bus (h.request.symm.trans hr)
  · refine inv_cmpAnswer_open _ bytes { hrun with } hph ?_ h.phase
    simp [hph, busOpenAfter, Phase.holdsBus]
  · rw [hsame, Phase.holdsBus_of_inTransfer ht]
    have hheld : BusHeld p { s with ports := ⟨true, false, .none⟩ } := ⟨{ hrun with }, rfl⟩
    exact hheld.inv_cmpAnswer hwf h.phase ht _ bytes
  · exact inv_cmpAnswer_close _ bytes { hrun with } hph rfl h.phase

theorem inv_cmpTick (hwf : p.wf = true) (h : Inv p s) : Inv p (cmpTick p s) := by
  unfold cmpTick
  split
  · rename_i hph
    have ha : s.seq.active = .cmp := by rw [h.phase_owner, hph]; rfl
    have hports : s.ports = ⟨true, false, .none⟩ := by rw [h.ports_eq, hph]; rfl
    obtain ⟨hpbr, -, hpos, hlt⟩ : s.cmp.pbr = false ∧ s.seq.k < p.cmpPollDelay ∧ 1 ≤ s.cmp.polls.toNat ∧
        s.cmp.polls.toNat < p.cmpPollMax := by simpa [PhaseInv, hph] using h.phase
    obtain ⟨-, ht⟩ | ⟨hk, ht⟩ := delayTick_cases p.cmpPollDelay (cmpPoll p) s
    · rw [ht]
      have hheld : BusHeld p (countOn s) := ⟨{ h.running ha nofun with }, hports⟩
      exact hheld.inv_cmpPoll hwf hpbr hlt
    · rw [ht]
      exact { h with phase := by simp only [PhaseInv, hph]; exact ⟨hpbr, hk, hpos, hlt⟩ }
  · exact h

/-! ### Events and steps -/

theorem inv_tick (hwf : p.wf = true) (e : Bool) (h : Inv p s) : Inv p (tick p e s) := by
  have hlatch : Inv p (latchSample (lineSample e s) s) := { h with }
  cases ha : s.seq.active with
  | none => rw [tick_of_idle ha]; exact hlatch
  | ow => rw [tick_of_ow ha]; exact inv_owTick hwf _ hlatch
  | fs => rw [tick_of_fs ha]; exact inv_fsTick hlatch
  | cmp => rw [tick_of_cmp ha]; exact inv_cmpTick hwf hlatch
  | lw => rw [tick_of_lw ha]; exact inv_lwTick _ hlatch ha

/-- Every event keeps the invariant, under every parameter set that meets R7. -/
theorem inv_handleEvent (hwf : p.wf = true) {e : Event} (h : Inv p s) (he : handleEvent p e s = .next t) : Inv p t := by
  obtain ⟨w, off, v, -, ⟨why, -, rfl⟩ | ⟨-, -, rfl⟩ | ⟨r, -, -, hwrite⟩⟩ | ⟨w, off, a, -, rfl⟩ | ⟨l, -, rfl⟩ |
    ⟨ok, bytes, r, -, hr, rfl⟩ | ⟨ok, n, r, -, hr, rfl⟩ | ⟨b, -, rfl⟩ | ⟨-, rfl⟩ | ⟨-, rfl⟩ := handleEvent_cases he
  · exact { h with }
  · exact { h with }
  · exact inv_writeReg (s := { s with reply := .done }) { h with } hwrite
  · exact { h with }
  · exact inv_tick hwf l h
  · exact inv_busDone hwf ok bytes h hr
  · exact inv_serDone hwf ok n h hr
  · exact inv_serRx b h
  · exact inv_serRxErr h
  · exact inv_resetEvent p s

theorem wf_params : Config.params.wf = true := by
  simp [Params.wf_iff, Config.params]

end Invariant

/-- Settles O16: taking the event from the inbox keeps the invariant, and so does the event. -/
theorem stepKeepsInvariant : Obligations.StepKeepsInvariant := by
  intro s t h hstep
  cases hi : s.inbox with
  | nil =>
    rw [step_of_empty hi] at hstep
    exact inv_handleEvent (s := { s with draws := s.draws + 1 }) wf_params { h with } hstep
  | cons e rest =>
    rw [step_of_inbox hi] at hstep
    exact inv_handleEvent (s := { s with inbox := rest }) wf_params { h with } hstep

end Sys2Proof.Machine
end

section
/-! PROOFS: the host window (R40 to R61), and what changes the line (R213, R214, R252). -/

namespace Sys2Proof.Machine

open Sys2Proof

/-! ### Registers and their offsets (R40, R107) -/

theorem writeReg_of_readOnly {r : Reg} (hcmd : r ≠ .cmd) (hstatus : r ≠ .status) (hintEn : r ≠ .intEn)
    (hlineCtrl : r ≠ .lineCtrl) (hcmpCfg : r ≠ .cmpCfg) (v : Word) (s : State) : writeReg r v s = .next s := by
  cases r <;> trivial

/-- No two registers share an offset: the one found there is the register itself. -/
theorem Reg.offset_injective {r q : Reg} (h : r.offset = q.offset) : r = q :=
  Option.some.inj <|
    calc some r = regAt r.offset := (regAt_offset r).symm
      _ = regAt q.offset := by rw [h]
      _ = some q := regAt_offset q

/-- Settles O21: an offset leads back to its register, and a write has an effect on the five writable ones only. -/
theorem registerReadsAndReadOnlyWrites : Obligations.RegisterReadsAndReadOnlyWrites := by
  intro p r q v s
  refine ⟨Reg.offset_injective, ?_, handleEvent_RD p r s, rfl, rfl, ?_⟩
  · cases r <;> rfl
  · intro hcmd hstatus hintEn hlineCtrl hcmpCfg
    calc handleEvent p (WR r v) s
      _ = writeReg r v { s with reply := .done } := handleEvent_WR p r v s
      _ = .next { s with reply := .done } := writeReg_of_readOnly hcmd hstatus hintEn hlineCtrl hcmpCfg v _

/-! ### STATUS (R43 to R49) -/

section StatusWord

variable (s : State)

theorem statusWord_busy : (statusWord s).getLsbD 0 = s.status.busy := by
  simp only [statusWord, BitVec.getLsbD_append]
  simp

theorem statusWord_done : (statusWord s).getLsbD 1 = s.status.done := by
  simp only [statusWord, BitVec.getLsbD_append]
  simp

theorem statusWord_overrun : (statusWord s).getLsbD 2 = s.status.overrun := by
  simp only [statusWord, BitVec.getLsbD_append]
  simp

theorem statusWord_bit3 : (statusWord s).getLsbD 3 = false := by
  simp only [statusWord, BitVec.getLsbD_append]
  simp

/-! A field is found by dropping the fields that stand below it. -/

theorem statusWord_result : (statusWord s).extractLsb' 4 4 = s.status.result.code := by
  unfold statusWord
  iterate 4 rw [BitVec.extractLsb'_append_eq_of_le (by decide)]
  exact BitVec.extractLsb'_append_eq_right

theorem statusWord_lastOp : (statusWord s).extractLsb' 8 8 = s.status.lastOp := by
  unfold statusWord
  iterate 5 rw [BitVec.extractLsb'_append_eq_of_le (by decide)]
  exact BitVec.extractLsb'_append_eq_right

theorem statusWord_owPhase : (statusWord s).extractLsb' 16 4 = s.seq.phase.owPhase := by
  unfold statusWord
  iterate 6 rw [BitVec.extractLsb'_append_eq_of_le (by decide)]
  exact BitVec.extractLsb'_append_eq_right

theorem statusWord_reserved : (statusWord s).extractLsb' 20 12 = 0 := by
  unfold statusWord
  iterate 7 rw [BitVec.extractLsb'_append_eq_of_le (by decide)]
  rfl

end StatusWord

/-- Settles O22: each field by its place in the word, then each code by its number. -/
theorem statusWordLayout : Obligations.StatusWordLayout := by
  intro s
  refine ⟨statusWord_busy s, statusWord_done s, statusWord_overrun s, statusWord_bit3 s, ?_, statusWord_lastOp s, ?_,
    statusWord_reserved s⟩
  · rw [regWord, statusWord_result]
    cases s.status.result <;> rfl
  · rw [regWord, statusWord_owPhase]
    cases s.seq.phase with
    | ow ph => cases ph <;> rfl
    | _ => rfl

/-- A flag under write-1-to-clear. -/
theorem and_not_eq_ite (flag clear : Bool) : (flag && !clear) = if clear then false else flag := by
  cases clear <;> simp

/-- Settles O23: a write of STATUS is `writeStatus`, which touches the two flags only, and a read only answers. -/
theorem statusWriteClearsFlags : Obligations.StatusWriteClearsFlags := by
  intro p s v
  refine ⟨writeStatus v { s with reply := .done }, handleEvent_WR p .status v s, rfl, ?_, ?_, rfl, rfl, rfl,
    handleEvent_RD p .status s, statusWord_bit3 s, statusWord_reserved s⟩
  · exact and_not_eq_ite s.status.done (v.getLsbD 1)
  · exact and_not_eq_ite s.status.overrun (v.getLsbD 2)

/-! ### CMP_CFG (R61) -/

/-- The bits of CMP_CFG that are not reserved, in the 32-bit word a host writes. -/
theorem setWidth_and_cfgMask (v : Word) : (v.setWidth 15 &&& cfgMask).setWidth 32 = v &&& 0x00007777 := by
  have hmask : ∀ i : Fin 32, (decide (i.val < 15) && cfgMask.getLsbD i.val) = (0x00007777 : Word).getLsbD i.val := by
    decide
  apply BitVec.eq_of_getLsbD_eq
  intro i hi
  have hbit : (decide (i < 15) && cfgMask.getLsbD i) = (0x00007777 : Word).getLsbD i := hmask ⟨i, hi⟩
  simp only [BitVec.getLsbD_and, BitVec.getLsbD_setWidth, hi, decide_true, Bool.true_and, ← hbit]
  rw [Bool.and_comm (decide _), Bool.and_assoc]

/-- Settles O25: the write reaches CMP_CFG alone, and the register keeps what the mask leaves. -/
theorem cmpCfgWriteLeavesLatchedCopy : Obligations.CmpCfgWriteLeavesLatchedCopy := by
  intro p s v
  exact ⟨writeCmpCfg v { s with reply := .done }, handleEvent_WR p .cmpCfg v s, rfl, setWidth_and_cfgMask v, rfl⟩

/-! ### What leaves the line alone

Only the tick of an OW.READ, a write of LINE_CTRL and Reset have a line of their own; a Tick also samples it. -/

section Line

variable {p : Params} {s t : State}

theorem accept_line {opc : BitVec 8} {start : State → State} (h : ∀ u : State, (start u).line = u.line) :
    (accept opc start s).line = s.line := by
  unfold accept
  split
  · rfl
  · exact h _

theorem exec_line {i : Instr} (h : exec i s = .next t) : t.line = s.line := by
  cases i <;> cases h <;> exact accept_line fun _ => rfl

theorem rejectCommand_line (v : Word) : (rejectCommand v s).line = s.line := by
  unfold rejectCommand
  split <;> rfl

theorem writeCmd_line {v : Word} (h : writeCmd v s = .next t) : t.line = s.line := by
  unfold writeCmd at h
  split at h
  · exact exec_line h
  · cases h; exact rejectCommand_line v

theorem writeReg_line {r : Reg} {v : Word} (h : writeReg r v s = .next t) :
    t.line = s.line ∨ (r = .lineCtrl ∧ s.status.busy = false) := by
  cases r with
  | cmd => exact .inl (writeCmd_line h)
  | lineCtrl =>
    cases h
    unfold writeLineCtrl
    split
    · exact .inl rfl
    · exact .inr ⟨rfl, Bool.eq_false_of_not_eq_true ‹_›⟩
  | _ => cases h; exact .inl rfl

theorem delayTick_line {n : Nat} {next : State → State} (h : ∀ u : State, (next u).line = u.line) :
    (delayTick n next s).line = s.line := by
  unfold delayTick
  split
  · exact h _
  · rfl

theorem lwTick_line (sample : Bool) : (lwTick sample s).line = s.line := by
  unfold lwTick
  split <;> rfl

theorem fsTick_line : (fsTick p s).line = s.line := by
  unfold fsTick
  split
  · exact delayTick_line fun _ => rfl
  · rfl

theorem fsAnswer_line (ok : Bool) (n : Nat) : (fsAnswer ok n s).line = s.line := by
  unfold fsAnswer
  split
  · split <;> rfl
  · split <;> rfl
  · rfl

theorem serDone_line (r : SerReq) (ok : Bool) (n : Nat) : (serDone r ok n s).line = s.line := by
  dsimp only [serDone]
  split
  · exact fsAnswer_line ok n
  · rfl

theorem fsValidate_line : (fsValidate s).line = s.line := by
  unfold fsValidate
  split
  · rfl
  · split <;> rfl

theorem serRx_line (b : Byte) : (serRx b s).line = s.line := by
  unfold serRx
  split
  · dsimp only [fsByte]
    split
    · exact fsValidate_line
    · rfl
  · rfl

theorem serRxErr_line : (serRxErr s).line = s.line := by
  unfold serRxErr
  split <;> rfl

theorem cmpTick_line : (cmpTick p s).line = s.line := by
  unfold cmpTick
  split
  · exact delayTick_line fun _ => rfl
  · rfl

theorem cmpStatus_line (st : Byte) : (cmpStatus p st s).line = s.line := by
  unfold cmpStatus
  split
  · rfl
  · split
    · rfl
    · split <;> rfl

theorem cmpCompute_line (bytes : List Byte) : (cmpCompute bytes s).line = s.line := by
  dsimp only [cmpCompute]
  split <;> rfl

theorem cmpEnd_line (c : ResultCode) : (cmpEnd c s).line = s.line := by
  cases c <;> rfl

theorem cmpAnswer_line (good : Bool) (bytes : List Byte) : (cmpAnswer p good bytes s).line = s.line := by
  unfold cmpAnswer
  cases s.seq.phase with
  | cmpStatus =>
    cases good with
    | true => exact cmpStatus_line _
    | false => rfl
  | cmpBurst =>
    cases good with
    | true => exact cmpCompute_line bytes
    | false => rfl
  | cmpClose c => exact cmpEnd_line c
  | _ => cases good <;> rfl

theorem busDone_line (r : BusReq) (ok : Bool) (bytes : List Byte) : (busDone p r ok bytes s).line = s.line := by
  dsimp only [busDone]
  split
  · exact cmpAnswer_line _ bytes
  · rfl

/-- Outside an OW.READ a Tick only samples the line. -/
theorem tick_line (e : Bool) (h : s.seq.active ≠ .ow) :
    (tick p e s).line = (latchSample (lineSample e s) s).line := by
  cases ha : s.seq.active with
  | none => rw [tick_of_idle ha]
  | ow => exact absurd ha h
  | fs => rw [tick_of_fs ha, fsTick_line]
  | cmp => rw [tick_of_cmp ha, cmpTick_line]
  | lw => rw [tick_of_lw ha, lwTick_line]

end Line

/-- Only a full-width access at a register's own offset reaches it. -/
theorem hostWrite_eq_WR {w : AccessWidth} {off : BitVec 12} {r : Reg} (hlegal : accessError w off = none)
    (hreg : regAt off = some r) (v : Word) : Event.hostWrite w off v = WR r v := by
  have hoff : r.offset = off := eq_of_beq (List.find?_some (p := fun q : Reg => q.offset == off) hreg)
  cases w with
  | word => rw [WR, hoff]
  | byte | half => cases hlegal

/-- Settles O31: each event outside the three named ones leaves the line as it was, but for the sample of a Tick. -/
theorem onlyOwReadAndIdleHostDriveTheLine : Obligations.OnlyOwReadAndIdleHostDriveTheLine := by
  intro p e s t he hchange
  have hline : t.line ≠ s.line := by
    intro hsame
    simp [hsame] at hchange
  obtain ⟨w, off, v, rfl, ⟨why, -, rfl⟩ | ⟨-, -, rfl⟩ | ⟨r, hlegal, hreg, hwrite⟩⟩ |
    ⟨w, off, a, rfl, rfl⟩ | ⟨l, rfl, rfl⟩ | ⟨ok, bytes, r, rfl, hr, rfl⟩ | ⟨ok, n, r, rfl, hr, rfl⟩ |
    ⟨b, rfl, rfl⟩ | ⟨rfl, rfl⟩ | ⟨rfl, rfl⟩ :=
    handleEvent_cases he
  · exact absurd rfl hline
  · exact absurd rfl hline
  · obtain hsame | ⟨rfl, hidle⟩ := writeReg_line hwrite
    · exact absurd hsame hline
    · exact .inr (.inr ⟨v, hostWrite_eq_WR hlegal hreg v, hidle⟩)
  · exact absurd rfl hline
  · by_cases ha : s.seq.active = .ow
    · exact .inr (.inl ⟨l, rfl, ha⟩)
    · simp [tick_line l ha] at hchange
  · exact absurd (busDone_line r ok bytes) hline
  · exact absurd (serDone_line r ok n) hline
  · exact absurd (serRx_line b) hline
  · exact absurd serRxErr_line hline
  · exact .inl rfl

end Sys2Proof.Machine
end

section
/-! PROOFS: the rules of the host window's accesses (20_memory.md R102 to R106), and what the ports discard and how they
fail (R118, R121, R125). -/

namespace Sys2Proof.Machine

open Sys2Proof

/-! ### Host accesses (R102 to R106) -/

theorem accessError_of_illegal {w : AccessWidth} {off : BitVec 12} (h : w ≠ .word ∨ off.toNat % 4 ≠ 0) :
    ∃ why, accessError w off = some why := by
  cases w with
  | byte | half => exact ⟨.narrow, rfl⟩
  | word =>
    have hoff : off.toNat % 4 ≠ 0 := h.resolve_left (· rfl)
    exact ⟨.misaligned, if_neg hoff⟩

theorem accessError_of_aligned {off : BitVec 12} (h : off.toNat % 4 = 0) : accessError .word off = none :=
  if_pos h

theorem regAt_of_unmapped {off : BitVec 12} (h : ∀ r : Reg, r.offset ≠ off) : regAt off = none :=
  List.find?_eq_none.mpr fun r _ => by simpa using h r

/-- What the host bus answers to a read: a fault of the access, or the word at the offset (R103, R106). -/
def readReply (w : AccessWidth) (off : BitVec 12) (s : State) : HostReply :=
  match accessError w off with
  | some why => .fault why
  | none => .data (hrwWord off s)

/-- A read writes its answer and nothing else. -/
theorem handleEvent_hostRead (p : Params) (w : AccessWidth) (off : BitVec 12) (s : State) :
    handleEvent p (.hostRead w off) s = .next { s with reply := readReply w off s } := by
  change Host.Outcome.next (hostRead w off s) = _
  unfold hostRead readReply
  cases accessError w off <;> rfl

/-- No register shows the last answer of the host bus. -/
theorem regWord_withReply (r : Reg) (a : HostReply) (s : State) : regWord r { s with reply := a } = regWord r s := by
  cases r <;> rfl

theorem readReply_withReply (w : AccessWidth) (off : BitVec 12) (a : HostReply) (s : State) :
    readReply w off { s with reply := a } = readReply w off s := by
  simp only [readReply, hrwWord, regWord_withReply]

theorem handleEvent_hostWrite_of_error {w : AccessWidth} {off : BitVec 12} {why : AccessError}
    (h : accessError w off = some why) (p : Params) (v : Word) (s : State) :
    handleEvent p (.hostWrite w off v) s = .next { s with reply := .fault why } := by
  simp [handleEvent, hostWrite, h]

theorem handleEvent_hostWrite_of_unmapped {w : AccessWidth} {off : BitVec 12} (hlegal : accessError w off = none)
    (hreg : regAt off = none) (p : Params) (v : Word) (s : State) :
    handleEvent p (.hostWrite w off v) s = .next { s with reply := .done } := by
  simp [handleEvent, hostWrite, hlegal, hreg]

/-- Settles O19: no register is found at the offset, so the read answers 0 and the write reaches nothing. -/
theorem unmappedOffsetReadsZeroIgnoresWrite : Obligations.UnmappedOffsetReadsZeroIgnoresWrite := by
  intro p off v s haligned hunmapped
  have hlegal : accessError .word off = none := accessError_of_aligned haligned
  have hreg : regAt off = none := regAt_of_unmapped hunmapped
  have hreply : readReply .word off s = .data 0 := by simp [readReply, hrwWord, hlegal, hreg]
  exact ⟨hreply ▸ handleEvent_hostRead p .word off s, handleEvent_hostWrite_of_unmapped hlegal hreg p v s⟩

/-- Settles O18: the access error is found before any register is, for a write and for a read. -/
theorem illegalAccessFaultsAndChangesNothing : Obligations.IllegalAccessFaultsAndChangesNothing := by
  intro p w off v s hillegal
  obtain ⟨why, herror⟩ := accessError_of_illegal hillegal
  have hreply : readReply w off s = .fault why := by simp [readReply, herror]
  exact ⟨why, handleEvent_hostWrite_of_error herror p v s, hreply ▸ handleEvent_hostRead p w off s⟩

/-- Settles O20: a read changes only the answer kept in the model's own field, and no later answer depends on it. -/
theorem readsHaveNoSideEffect : Obligations.ReadsHaveNoSideEffect := by
  intro p w off s
  refine ⟨readReply w off s, handleEvent_hostRead p w off s, ?_⟩
  simp only [handleEvent_hostRead, readReply_withReply]

/-! ### The serial port outside the receive (R125) -/

theorem serRx_of_not_receiving {s : State} (h : s.seq.phase ≠ .fsReceive) (b : Byte) : serRx b s = s := by
  unfold serRx
  split
  · exact absurd ‹_› h
  · rfl

theorem serRxErr_of_not_receiving {s : State} (h : s.seq.phase ≠ .fsReceive) : serRxErr s = s := by
  unfold serRxErr
  split
  · exact absurd ‹_› h
  · rfl

/-- Settles O45: the two events act at the control point of the receive only. -/
theorem serialBytesOutsideReceiveAreDiscarded : Obligations.SerialBytesOutsideReceiveAreDiscarded := by
  intro p b s h
  exact ⟨congrArg Host.Outcome.next (serRx_of_not_receiving h b), congrArg Host.Outcome.next (serRxErr_of_not_receiving h)⟩

/-! ### A failed bus request (R118, R121) -/

section BusFailure

variable {p : Params} {s : State}

theorem busGood_of_failed {r : BusReq} {ok : Bool} {bytes : List Byte} (h : ok = false ∨ bytes.length ≠ r.count) :
    busGood r ok bytes = false := by
  obtain rfl | hcount := h
  · rfl
  · simp [busGood, hcount]

/-- A failed open ends the command at once (R282). -/
theorem Inv.busDone_of_failed_open (h : Inv p s) (hph : s.seq.phase = .cmpOpen) {addr : BitVec 7} {ok : Bool}
    {bytes : List Byte} (hgood : busGood (.openDev addr) ok bytes = false) :
    busDone p (.openDev addr) ok bytes s =
      cmpFail .transportUnavailable { s with ports := ⟨false, false, .none⟩ } := by
  rw [h.busDone_eq (by rw [hph]; rfl), hgood]
  simp [cmpAnswer, hph, busOpenAfter, Phase.holdsBus]

/-- A failed transfer issues the close, with the port still open (R121). -/
theorem Inv.busDone_of_failed_transfer (h : Inv p s) (ht : s.seq.phase.inTransfer = true) {r : BusReq}
    (howner : s.seq.phase.owner = .cmp) (hsame : ∀ good before, busOpenAfter r good before = before) {ok : Bool}
    {bytes : List Byte} (hgood : busGood r ok bytes = false) :
    busDone p r ok bytes s = cmpClose .transportUnavailable { s with ports := ⟨true, false, .none⟩ } := by
  rw [h.busDone_eq howner, hgood, hsame, Phase.holdsBus_of_inTransfer ht]
  exact cmpAnswer_of_failed bytes ht

/-- The close's answer ends the command with the code it was issued for, whatever it says (R301). -/
theorem busDone_cmpClose (ha : s.seq.active = .cmp) (c : ResultCode) (ok : Bool) (bytes : List Byte) :
    busDone p .closeDev ok bytes (cmpClose c s) =
      cmpEnd c { cmpClose c s with ports := { s.ports with pending := .none, busOpen := false } } := by
  rw [busDone_of_cmp (s := cmpClose c s) ha]
  rfl

/-- CMP_STAT reads 0 at a failure before the first poll (R307). -/
theorem cmpStatWord_of_no_polls (hpolls : s.cmp.polls = 0) (hpbr : s.cmp.pbr = false) : cmpStatWord s = 0 := by
  rw [cmpStatWord, hpolls, hpbr]
  rfl

end BusFailure

/-- Settles O57: a request is outstanding at the open, in a transfer or at the close. At the first the failure ends the
command; in a transfer it issues the close, and the close's answer ends it. -/
theorem busFailureEndsTransportUnavailable : Obligations.BusFailureEndsTransportUnavailable := by
  intro p s r ok bytes hinv hpending hfailed hnotClose
  have hrequest := hinv.request.symm.trans hpending
  have howner : s.seq.phase.owner = .cmp := Phase.owner_of_bus hrequest
  have hactive : s.seq.active = .cmp := hinv.phase_owner.trans howner
  have hgood : busGood r ok bytes = false := busGood_of_failed hfailed
  refine ⟨busDone p r ok bytes s, handleEvent_busDone hpending ok bytes, ?_⟩
  obtain ⟨hph, addr, rfl⟩ | ⟨htransfer, hsame⟩ | ⟨-, rfl⟩ := Phase.request_eq_bus hrequest
  · obtain ⟨hpolls, hpbr⟩ : s.cmp.polls = 0 ∧ s.cmp.pbr = false := by simpa [PhaseInv, hph] using hinv.phase
    rw [hinv.busDone_of_failed_open hph hgood]
    refine ⟨fun _ => ⟨rfl, rfl, ?_⟩, fun hnotOpen => absurd rfl (hnotOpen addr)⟩
    exact congrArg (CmpRegs.mk 0 0 0 0 0 0 0) (cmpStatWord_of_no_polls hpolls hpbr)
  · rw [hinv.busDone_of_failed_transfer htransfer howner hsame hgood]
    refine ⟨?_, fun _ => ⟨rfl, rfl, rfl, fun ok2 extra => ⟨_, handleEvent_busDone rfl ok2 extra, ?_⟩⟩⟩
    · rintro ⟨addr, rfl⟩
      exact absurd (hsame true false) nofun
    · rw [busDone_cmpClose]
      · exact ⟨rfl, rfl, rfl⟩
      · exact hactive
  · exact absurd rfl hnotClose

end Sys2Proof.Machine
end

section
/-! PROOFS: the GPIO-window view (20_memory.md R127 to R132): the words of a pin operation, bit by bit. -/

namespace Sys2Proof.Machine

open Sys2Proof

/-! ### Levels (R129 to R131) -/

/-- Setting or clearing one bit of a word changes no other bit. -/
theorem getLsbD_levelBit (w : Word) (high : Bool) (k : Nat) {b : Nat} (hb : b < 32) :
    (if high then w ||| 1#32 <<< k else w &&& ~~~(1#32 <<< k)).getLsbD b = if b = k then high else w.getLsbD b := by
  have hbit : (1#32 <<< k).getLsbD b = decide (b = k) := by
    simp only [BitVec.getLsbD_shiftLeft, BitVec.getLsbD_one, hb]
    grind
  cases high with
  | true => simp only [if_true, BitVec.getLsbD_or, hbit]; grind
  | false =>
    simp only [Bool.false_eq_true, if_false, BitVec.getLsbD_and, BitVec.getLsbD_not, hbit, hb, decide_true, Bool.true_and]
    grind

/-- Settles O59: the registers are found at their offsets, and the bit stored is the pin's own. -/
theorem pinLevelActsOnOneBit : Obligations.PinLevelActsOnOneBit := by
  intro pin high g hready
  refine ⟨gpwReadLevel_ready hready pin, gpwLoad_lev hready, gpwLoad_fsel hready,
    fun w => ⟨gpwStore_set hready w, gpwStore_clr hready w⟩, _, gpwWriteLevel_ready hready pin high, hready, rfl, rfl, ?_⟩
  intro b hb
  exact getLsbD_levelBit g.latch high (pin.val % 32) hb

/-! ### Directions (R127, R128) -/

/-- A pin's field fits its word. -/
theorem fselShift_le (pin : Pin) : fselShift pin ≤ 29 := by
  unfold fselShift
  omega

/-- A three-bit field moved to bit `k` of a word. -/
theorem getLsbD_shifted_field (v : BitVec 3) (k : Nat) {b : Nat} (hb : b < 32) :
    (v.setWidth 32 <<< k).getLsbD b = (!decide (b < k) && v.getLsbD (b - k)) := by
  simp [hb]

/-- The three bits a direction change puts into the pin's field (R128). -/
def directionField (output : Bool) : BitVec 3 := if output then 1 else 0

theorem fselCode_eq (output : Bool) : fselCode output = (directionField output).setWidth 32 := by
  cases output <;> rfl

/-- A direction change writes the code into the pin's field and the word it read everywhere else. -/
theorem getLsbD_directionWord (d : DirectionWrite) {b : Nat} (hb : b < 32) :
    (directionWord d).getLsbD b =
      if fselShift d.pin ≤ b ∧ b < fselShift d.pin + 3 then (directionField d.output).getLsbD (b - fselShift d.pin)
      else d.seen.getLsbD b := by
  have hmask : (0b111#32 <<< fselShift d.pin).getLsbD b = _ := getLsbD_shifted_field (BitVec.allOnes 3) _ hb
  simp only [directionWord, BitVec.getLsbD_or, BitVec.getLsbD_and, BitVec.getLsbD_not, hmask, fselCode_eq,
    getLsbD_shifted_field _ _ hb, BitVec.getLsbD_allOnes, hb]
  obtain hbelow | ⟨hlow, hhigh⟩ | habove :
      b < fselShift d.pin ∨ (fselShift d.pin ≤ b ∧ b < fselShift d.pin + 3) ∨ fselShift d.pin + 3 ≤ b := by omega
  · simp [hbelow]
  · have hmember : b - fselShift d.pin < 3 := by omega
    simp [hlow, hhigh, hmember, Nat.not_lt.mpr hlow]
  · have hpast : 3 ≤ b - fselShift d.pin := by omega
    simp [Nat.not_lt.mpr habove, Nat.not_lt.mpr hpast, BitVec.getLsbD_of_ge _ _ hpast]

theorem getLsbD_directionWord_outside (d : DirectionWrite) {b : Nat} (hb : b < 32)
    (hout : b < fselShift d.pin ∨ fselShift d.pin + 3 ≤ b) : (directionWord d).getLsbD b = d.seen.getLsbD b := by
  rw [getLsbD_directionWord d hb, if_neg (by omega)]

theorem extractLsb'_directionWord (d : DirectionWrite) :
    (directionWord d).extractLsb' (fselShift d.pin) 3 = directionField d.output := by
  apply BitVec.eq_of_getLsbD_eq
  intro i hi
  have hfit := fselShift_le d.pin
  rw [BitVec.getLsbD_extractLsb', getLsbD_directionWord d (by omega), if_pos (by omega), Nat.add_sub_cancel_left]
  simp [hi]

/-- What the read of a direction change leaves to be written (R128, first line). -/
def directionRead (pin : Pin) (output : Bool) (g : Gpw) : DirectionWrite := ⟨pin, output, g.fsel[fselIndex pin]⟩

/-- The window after the write of a direction change (R128, third line). -/
def Gpw.withDirection (g : Gpw) (d : DirectionWrite) : Gpw :=
  { g with fsel := g.fsel.set (fselIndex d.pin) (directionWord d) }

theorem gpwBeginDirection_eq {g : Gpw} (h : g.ready = true) (pin : Pin) (output : Bool) :
    gpwBeginDirection pin output g = .next (directionRead pin output g) :=
  gpwBeginDirection_ready h pin output

theorem gpwEndDirection_eq {g : Gpw} (h : g.ready = true) (d : DirectionWrite) :
    gpwEndDirection d g = .next (g.withDirection d) :=
  gpwEndDirection_ready h d

theorem gpwSetDirection_eq {g : Gpw} (h : g.ready = true) (pin : Pin) (output : Bool) :
    gpwSetDirection pin output g = .next (g.withDirection (directionRead pin output g)) :=
  gpwSetDirection_ready h pin output

section WithDirection

variable (g : Gpw) (d : DirectionWrite)

theorem withDirection_written : (g.withDirection d).fsel[fselIndex d.pin] = directionWord d :=
  Vector.getElem_set_self _

theorem withDirection_other {i : Fin 6} (h : i ≠ fselIndex d.pin) : (g.withDirection d).fsel[i] = g.fsel[i] :=
  Vector.getElem_set_ne (fselIndex d.pin).isLt i.isLt fun heq => h (Fin.ext heq.symm)

theorem withDirection_field :
    ((g.withDirection d).fsel[fselIndex d.pin]).extractLsb' (fselShift d.pin) 3 = directionField d.output := by
  rw [withDirection_written, extractLsb'_directionWord]

theorem withDirection_outside_field {b : Nat} (hb : b < 32)
    (hout : b < fselShift d.pin ∨ fselShift d.pin + 3 ≤ b) :
    ((g.withDirection d).fsel[fselIndex d.pin]).getLsbD b = d.seen.getLsbD b := by
  rw [withDirection_written, getLsbD_directionWord_outside d hb hout]

end WithDirection

/-- Settles O58: the change writes the word it read with the pin's field replaced, and no other word, into the window as
it stands by then. -/
theorem pinDirectionWritesOnlyItsField : Obligations.PinDirectionWritesOnlyItsField := by
  intro pin output g between hg hbetween
  have hset := gpwSetDirection_eq hg pin output
  refine ⟨rfl, rfl, ⟨_, hset, hg, rfl, rfl, withDirection_field g (directionRead pin output g), ?_⟩,
    directionRead pin output g, gpwBeginDirection_eq hg pin output, (gpwEndDirection_eq hg _).trans hset.symm,
    _, gpwEndDirection_eq hbetween _, rfl, withDirection_field between (directionRead pin output g), ?_, ?_⟩
  · intro i b hb hout
    by_cases hi : i = fselIndex pin
    · subst hi
      exact withDirection_outside_field g (directionRead pin output g) hb (hout.resolve_left (· rfl))
    · rw [withDirection_other g (directionRead pin output g) hi]
  · exact fun b hb hout => withDirection_outside_field between (directionRead pin output g) hb hout
  · exact fun i hi => withDirection_other between (directionRead pin output g) hi

/-! ### The initialisation (R132) -/

theorem gpwLoad_not_ready {g : Gpw} (h : g.ready = false) (off : BitVec 12) :
    gpwLoad off g = .refused .pinNotInitialised :=
  (gpw_not_ready h off 0).left

theorem gpwStore_not_ready {g : Gpw} (h : g.ready = false) (off : BitVec 12) (w : Word) :
    gpwStore off w g = .refused .pinNotInitialised :=
  (gpw_not_ready h off w).right

/-- A direction change does not get past its read. -/
theorem gpwSetDirection_not_ready {g : Gpw} (h : g.ready = false) (pin : Pin) (output : Bool) :
    gpwSetDirection pin output g = .refused .pinNotInitialised := by
  simp [gpwSetDirection, gpwBeginDirection, gpwLoad_not_ready h]

theorem gpwReadLevel_not_ready {g : Gpw} (h : g.ready = false) (pin : Pin) :
    gpwReadLevel pin g = .refused .pinNotInitialised := by
  simp [gpwReadLevel, gpwLoad_not_ready h]

/-- Settles O60: every operation is made of loads and stores, which are refused until the window is ready. -/
theorem pinOperationsNeedInitialisation : Obligations.PinOperationsNeedInitialisation := by
  intro pin x g
  refine ⟨fun hg => ?_, { g with ready := true }, rfl, rfl, ⟨_, gpwWriteLevel_ready rfl pin x⟩, fun hg => ?_⟩
  · exact ⟨gpwSetDirection_not_ready hg pin x, gpwStore_not_ready hg _ _, gpwReadLevel_not_ready hg pin⟩
  · rw [← hg]

end Sys2Proof.Machine
end

section
/-! PROOFS: the encoding (30_encoding.md): CMD values (R150 to R156, R164), and the sensor's bytes (R161, R162). -/

namespace Sys2Proof.Machine

open Sys2Proof

/-! ### The words of format FW (R151) -/

/-- The CMD value of format FW, field by field: TIMEOUT, the reserved bits 15:9, L and OPC (R151). -/
def lineWaitWord (level : Bool) (timeout : BitVec 16) : Word :=
  timeout ++ (0#7 ++ (BitVec.ofBool level ++ opcLineWait))

/-- OPC 0x04 has bit 2 only. -/
theorem getLsbD_matchLineWait {i : Nat} (hi : i < 32) : (4 : Word).getLsbD i = decide (i = 2) :=
  (by decide : ∀ i < 32, (4 : Word).getLsbD i = decide (i = 2)) i hi

theorem getLsbD_lineWaitWord (level : Bool) (timeout : BitVec 16) (i : Nat) :
    (lineWaitWord level timeout).getLsbD i =
      if 16 ≤ i then timeout.getLsbD (i - 16) else if i = 8 then level else decide (i = 2) := by
  have hopc : ∀ j < 8, opcLineWait.getLsbD j = decide (j = 2) := by decide
  simp only [lineWaitWord, BitVec.getLsbD_append, BitVec.getLsbD_ofBool, BitVec.getLsbD_zero]
  by_cases h8 : i = 8
  · simp [h8]
  · grind

/-- R164's word is the word of format FW: the shifted operands meet neither each other nor OPC. -/
theorem encode_lineWait (level : Bool) (t : Nat) :
    encode (.lineWait level t) = lineWaitWord level (BitVec.ofNat 16 t) := by
  have hlevel : ∀ b, ∀ i < 32, (if b then 0x100 else 0 : Word).getLsbD i = (decide (i = 8) && b) := by decide
  apply BitVec.eq_of_getLsbD_eq
  intro i hi
  rw [getLsbD_lineWaitWord, encode, BitVec.getLsbD_or, BitVec.getLsbD_or, hlevel level i hi, getLsbD_matchLineWait hi]
  simp only [BitVec.getLsbD_shiftLeft, BitVec.getLsbD_ofNat]
  grind

/-- What the row's match and mask ask of a word, bit by bit: bit 2 set, and every other bit but L and TIMEOUT clear. -/
theorem mask_eq_match_iff_bits (v : Word) :
    v &&& 0x0000FEFF = 4 ↔ ∀ i < 16, i ≠ 8 → v.getLsbD i = decide (i = 2) := by
  have hmask : ∀ i < 32, (0x0000FEFF : Word).getLsbD i = decide (i < 16 ∧ i ≠ 8) := by decide
  constructor
  · intro h i hi hne
    have hi32 : i < 32 := by omega
    calc v.getLsbD i
      _ = (v &&& 0x0000FEFF).getLsbD i := by rw [BitVec.getLsbD_and, hmask i hi32]; simp [hi, hne]
      _ = decide (i = 2) := by rw [h, getLsbD_matchLineWait hi32]
  · intro h
    apply BitVec.eq_of_getLsbD_eq
    intro i hi
    rw [BitVec.getLsbD_and, hmask i hi, getLsbD_matchLineWait hi]
    grind

/-- The words the row of LINE.WAIT matches are those of format FW. -/
theorem mask_eq_match_iff (v : Word) :
    v &&& 0x0000FEFF = 4 ↔ v = lineWaitWord (v.getLsbD 8) (v.extractLsb' 16 16) := by
  rw [mask_eq_match_iff_bits]
  constructor
  · intro h
    apply BitVec.eq_of_getLsbD_eq
    intro i hi
    rw [getLsbD_lineWaitWord, BitVec.getLsbD_extractLsb']
    grind
  · intro h i hi hne
    rw [h, getLsbD_lineWaitWord, if_neg (Nat.not_le.mpr hi), if_neg hne]

section LineWaitWord

variable (level : Bool) (timeout : BitVec 16)

theorem lineWaitWord_level : (lineWaitWord level timeout).getLsbD 8 = level :=
  getLsbD_lineWaitWord level timeout 8

theorem lineWaitWord_timeout : (lineWaitWord level timeout).extractLsb' 16 16 = timeout :=
  BitVec.extractLsb'_append_eq_left

theorem lineWaitWord_mask : lineWaitWord level timeout &&& 0x0000FEFF = 4 := by
  rw [mask_eq_match_iff, lineWaitWord_level, lineWaitWord_timeout]

end LineWaitWord

/-! ### The rows of the opcode table (R152, R153) -/

/-- A mask of ones compares the whole word. -/
theorem and_fullMask (v : Word) : v &&& 0xFFFFFFFF = v := BitVec.and_allOnes

/-- What `decode` can answer: one case for each row, and one for the values no row matches. -/
theorem decode_cases (v : Word) :
    (v = 1 ∧ decode v = .command .owRead) ∨ (v = 2 ∧ decode v = .command .fsRead) ∨
    (v = 3 ∧ decode v = .command .cmpRead) ∨
    (v &&& 0x0000FEFF = 4 ∧ decode v = .command (.lineWait (v.getLsbD 8) (v.extractLsb' 16 16).toNat)) ∨
    ((v ≠ 1 ∧ v ≠ 2 ∧ v ≠ 3 ∧ v &&& 0x0000FEFF ≠ 4) ∧ decode v = .illegal (illegalReason v)) := by
  simp only [decode, and_fullMask]
  split_ifs with h1 h2 h3 hmask
  · exact .inl ⟨h1, rfl⟩
  · exact .inr (.inl ⟨h2, rfl⟩)
  · exact .inr (.inr (.inl ⟨h3, rfl⟩))
  · exact .inr (.inr (.inr (.inl ⟨hmask, rfl⟩)))
  · exact .inr (.inr (.inr (.inr ⟨⟨h1, h2, h3, hmask⟩, rfl⟩)))

/-- A word that meets the row's match and mask differs from every word of format F0, so the row decodes it. -/
theorem decode_of_mask {v : Word} (h : v &&& 0x0000FEFF = 4) :
    decode v = .command (.lineWait (v.getLsbD 8) (v.extractLsb' 16 16).toNat) := by
  obtain ⟨rfl, -⟩ | ⟨rfl, -⟩ | ⟨rfl, -⟩ | ⟨-, hd⟩ | ⟨⟨-, -, -, hm⟩, -⟩ := decode_cases v
  · exact absurd h (by decide)
  · exact absurd h (by decide)
  · exact absurd h (by decide)
  · exact hd
  · exact absurd h hm

/-! ### Decode and encode -/

/-- A well-formed TIMEOUT fits its field. -/
theorem toNat_timeout_of_wf {level : Bool} {t : Nat} (h : Instr.wf (.lineWait level t) = true) :
    (BitVec.ofNat 16 t).toNat = t := by
  have hle : t ≤ 65535 := of_decide_eq_true h
  rw [BitVec.toNat_ofNat, Nat.mod_eq_of_lt (by omega)]

/-- Settles O2: format F0 by its three words; a LINE.WAIT word has its operands where the row reads them. -/
theorem decodeOfEncode : Obligations.DecodeOfEncode := by
  intro i hwf
  cases i with
  | owRead => decide
  | fsRead => decide
  | cmpRead => decide
  | lineWait level t =>
    rw [encode_lineWait, decode_of_mask (lineWaitWord_mask level _), lineWaitWord_level, lineWaitWord_timeout,
      toNat_timeout_of_wf hwf]

/-- Settles O3: the row that decoded the word fixes every bit that is not an operand. -/
theorem encodeOfDecode : Obligations.EncodeOfDecode := by
  intro v i hi
  obtain ⟨rfl, h⟩ | ⟨rfl, h⟩ | ⟨rfl, h⟩ | ⟨hmask, h⟩ | ⟨-, h⟩ := decode_cases v <;> cases h.symm.trans hi
  · exact ⟨rfl, rfl⟩
  · exact ⟨rfl, rfl⟩
  · exact ⟨rfl, rfl⟩
  · refine ⟨decide_eq_true (Nat.le_of_lt_succ (v.extractLsb' 16 16).isLt), ?_⟩
    rw [encode_lineWait, BitVec.ofNat_toNat, BitVec.setWidth_eq]
    exact ((mask_eq_match_iff v).mp hmask).symm

/-- TIMEOUT is the upper half of the word. -/
theorem toNat_timeoutField (v : Word) : (v.extractLsb' 16 16).toNat = v.toNat / 65536 := by
  have hv := v.isLt
  rw [BitVec.extractLsb'_toNat, Nat.shiftRight_eq_div_pow]
  omega

/-- The legal words are the words of the well-formed commands, each of its own command. -/
theorem decode_eq_command_iff (v : Word) {i : Instr} (hwf : i.wf = true) : decode v = .command i ↔ v = encode i := by
  constructor
  · intro h
    obtain ⟨-, hv⟩ := encodeOfDecode v i h
    exact hv.symm
  · rintro rfl
    exact decodeOfEncode i hwf

theorem decode_eq_lineWait_iff (v : Word) (level : Bool) (t : Nat) :
    decode v = .command (.lineWait level t) ↔ v &&& 0x0000FEFF = 4 ∧ level = v.getLsbD 8 ∧ t = v.toNat / 65536 := by
  rw [← toNat_timeoutField]
  constructor
  · intro h
    obtain ⟨hwf, rfl⟩ := encodeOfDecode v _ h
    rw [encode_lineWait, lineWaitWord_level, lineWaitWord_timeout, toNat_timeout_of_wf hwf]
    exact ⟨lineWaitWord_mask level _, rfl, rfl⟩
  · rintro ⟨hmask, rfl, rfl⟩
    exact decode_of_mask hmask

theorem not_illegal_of_command {v : Word} {i : Instr} (h : decode v = .command i) :
    ¬ ∃ why, decode v = .illegal why := by
  rintro ⟨why, hwhy⟩
  cases h.symm.trans hwhy

theorem decode_eq_illegal_iff (v : Word) :
    (∃ why, decode v = .illegal why) ↔ v ≠ 1 ∧ v ≠ 2 ∧ v ≠ 3 ∧ v &&& 0x0000FEFF ≠ 4 := by
  obtain ⟨hv, h⟩ | ⟨hv, h⟩ | ⟨hv, h⟩ | ⟨hmask, h⟩ | ⟨hne, h⟩ := decode_cases v
  · exact iff_of_false (not_illegal_of_command h) fun ⟨h1, _⟩ => h1 hv
  · exact iff_of_false (not_illegal_of_command h) fun ⟨_, h2, _⟩ => h2 hv
  · exact iff_of_false (not_illegal_of_command h) fun ⟨_, _, h3, _⟩ => h3 hv
  · exact iff_of_false (not_illegal_of_command h) fun ⟨_, _, _, h4⟩ => h4 hmask
  · exact iff_of_true ⟨_, h⟩ hne

/-- Settles O1: the rows of format F0 by the words of their commands, then LINE.WAIT, then what no row matches. -/
theorem decodeMatchesEveryRow : Obligations.DecodeMatchesEveryRow := by
  intro v
  have h1 : v.toNat = 1 ↔ v = 1 := BitVec.toNat_inj (y := 1)
  have h2 : v.toNat = 2 ↔ v = 2 := BitVec.toNat_inj (y := 2)
  have h3 : v.toNat = 3 ↔ v = 3 := BitVec.toNat_inj (y := 3)
  simp only [ne_eq, h1, h2, h3]
  exact ⟨decode_eq_command_iff v (i := .owRead) rfl, decode_eq_command_iff v (i := .fsRead) rfl,
    decode_eq_command_iff v (i := .cmpRead) rfl, decode_eq_lineWait_iff v, decode_eq_illegal_iff v⟩

/-- Settles O4: each word is decoded by its row, or by none. -/
theorem sampleWordsDecode : Obligations.SampleWordsDecode := by
  unfold Obligations.SampleWordsDecode
  decide

/-! ### LINE.WAIT at acceptance (R156, R216) -/

/-- Settles O11: the acceptance of an idle SFE, then the start of LINE.WAIT, which latches the operands. -/
theorem lineWaitIsAccepted : Obligations.LineWaitIsAccepted := by
  intro s level timeout hidle
  have hexec : exec (.lineWait level timeout) s = .next (accept opcLineWait (lwStart level timeout) s) := rfl
  rw [accept_of_idle hidle] at hexec
  exact ⟨_, hexec, rfl, toNat_timeout_of_wf⟩

/-! ### The sensor's bytes (R161, R162) -/

/-- A field above another, where the lower one keeps to its bits and the upper one is not cut: `|` adds. -/
theorem toNat_shiftLeft_or {n : Nat} {hi lo : BitVec n} {k : Nat} (hlo : lo.toNat < 2 ^ k)
    (hhi : hi.toNat * 2 ^ k < 2 ^ n) : (hi <<< k ||| lo).toNat = hi.toNat * 2 ^ k + lo.toNat := by
  rw [BitVec.toNat_or, BitVec.toNat_shiftLeft, Nat.shiftLeft_eq, Nat.mod_eq_of_lt hhi, ← Nat.shiftLeft_eq,
    Nat.shiftLeft_add_eq_or_of_lt hlo]

/-- A three-bit field of CMP_CFG, in a byte. -/
theorem toNat_cfgField (cfg : BitVec 15) (k : Nat) :
    ((cfg.extractLsb' k 3).setWidth 8).toNat = cfg.toNat / 2 ^ k % 8 := by
  rw [BitVec.toNat_setWidth_of_le (by decide), BitVec.extractLsb'_toNat, Nat.shiftRight_eq_div_pow]

theorem toNat_configByte (cfg : BitVec 15) : (configByte cfg).toNat = cfg.toNat % 8 * 4 := by
  rw [configByte, cfgFilter, BitVec.toNat_shiftLeft, toNat_cfgField, Nat.shiftLeft_eq]
  omega

theorem toNat_ctrlHumByte (cfg : BitVec 15) : (ctrlHumByte cfg).toNat = cfg.toNat / 16 % 8 :=
  toNat_cfgField cfg 4

/-- The mode bits lie below OSRS_P, and OSRS_P below OSRS_T. -/
theorem toNat_ctrlMeasByte (cfg : BitVec 15) :
    (ctrlMeasByte cfg).toNat = cfg.toNat / 256 % 8 * 32 + cfg.toNat / 4096 % 8 * 4 + 1 := by
  have hT : ((cfgOsrsT cfg).setWidth 8).toNat = cfg.toNat / 256 % 8 := toNat_cfgField cfg 8
  have hP : ((cfgOsrsP cfg).setWidth 8).toNat = cfg.toNat / 4096 % 8 := toNat_cfgField cfg 12
  have hlow : ((cfgOsrsP cfg).setWidth 8 <<< 2 ||| (0b01 : Byte)).toNat = cfg.toNat / 4096 % 8 * 4 + 1 := by
    rw [toNat_shiftLeft_or (by decide) (by omega), hP]
    rfl
  rw [ctrlMeasByte, BitVec.or_assoc, toNat_shiftLeft_or (by omega) (by omega), hT, hlow]
  omega

theorem toNat_adc20 (msb lsb xlsb : Byte) :
    (adc20 msb lsb xlsb).toNat = msb.toNat * 4096 + lsb.toNat * 16 + xlsb.toNat / 16 := by
  have hmsb : (msb.setWidth 20).toNat = msb.toNat := BitVec.toNat_setWidth_of_le (by decide)
  have hlsb : (lsb.setWidth 20).toNat = lsb.toNat := BitVec.toNat_setWidth_of_le (by decide)
  have hxlsb : ((xlsb >>> 4).setWidth 20).toNat = xlsb.toNat / 16 := by
    rw [BitVec.toNat_setWidth_of_le (by decide), BitVec.toNat_ushiftRight, Nat.shiftRight_eq_div_pow]
  have hlow : (lsb.setWidth 20 <<< 4 ||| (xlsb >>> 4).setWidth 20).toNat = lsb.toNat * 16 + xlsb.toNat / 16 := by
    rw [toNat_shiftLeft_or (by omega) (by omega), hlsb, hxlsb]
    rfl
  rw [adc20, BitVec.or_assoc, toNat_shiftLeft_or (by omega) (by omega), hmsb, hlow]
  omega

theorem toNat_burstAdcH (b : Vector Byte 8) : (burstAdcH b).toNat = b[6].toNat * 256 + b[7].toNat := by
  have hmsb : (b[6].setWidth 16).toNat = b[6].toNat := BitVec.toNat_setWidth_of_le (by decide)
  have hlsb : (b[7].setWidth 16).toNat = b[7].toNat := BitVec.toNat_setWidth_of_le (by decide)
  rw [burstAdcH, toNat_shiftLeft_or (by omega) (by omega), hmsb, hlsb]
  rfl

/-- Settles O48: the fields of each byte and each sample lie side by side, so the numbers add. -/
theorem sensorBytesFollowTheirLayouts : Obligations.SensorBytesFollowTheirLayouts :=
  ⟨fun cfg => ⟨toNat_configByte cfg, toNat_ctrlHumByte cfg, toNat_ctrlMeasByte cfg⟩,
    fun b => ⟨toNat_adc20 b[0] b[1] b[2], toNat_adc20 b[3] b[4] b[5], toNat_burstAdcH b⟩⟩

end Sys2Proof.Machine
end

section
/-! PROOFS: the line (40_line.md): LINE_CTRL (R213 to R215), the sample of a Tick (R201, R202), and LINE.WAIT over every
line trace (R209 to R217). -/

namespace Sys2Proof.Machine

open Sys2Proof

/-! ### LINE_CTRL (R213 to R215) -/

section LineCtrl

variable {s : State}

theorem writeLineCtrl_of_idle (h : s.status.busy = false) (v : Word) :
    writeLineCtrl v s = { s with line := { s.line with mode := v.getLsbD 0, out := v.getLsbD 1 } } := by
  simp [writeLineCtrl, h]

theorem writeLineCtrl_of_busy (h : s.status.busy = true) (v : Word) : writeLineCtrl v s = s := by
  simp [writeLineCtrl, h]

variable (s)

theorem lineCtrlWord_mode : (lineCtrlWord s).getLsbD 0 = s.line.mode := by
  simp only [lineCtrlWord, BitVec.getLsbD_append]
  simp

theorem lineCtrlWord_out : (lineCtrlWord s).getLsbD 1 = s.line.out := by
  simp only [lineCtrlWord, BitVec.getLsbD_append]
  simp

theorem lineCtrlWord_in : (lineCtrlWord s).getLsbD 2 = s.line.sync2 := by
  simp only [lineCtrlWord, BitVec.getLsbD_append]
  simp

theorem lineCtrlWord_reserved : (lineCtrlWord s).extractLsb' 3 29 = 0 := by
  unfold lineCtrlWord
  iterate 3 rw [BitVec.extractLsb'_append_eq_of_le (by decide)]
  rfl

end LineCtrl

/-- Settles O26: the write is `writeLineCtrl`, which asks for BUSY = 0, and a read only answers the word. -/
theorem lineCtrlWriteOnlyWhileIdle : Obligations.LineCtrlWriteOnlyWhileIdle := by
  intro p s v
  have hwrite : handleEvent p (WR .lineCtrl v) s = .next (writeLineCtrl v { s with reply := .done }) :=
    handleEvent_WR p .lineCtrl v s
  refine ⟨fun hidle => ?_, fun hbusy => ?_, lineCtrlWord s, handleEvent_RD p .lineCtrl s, lineCtrlWord_mode s,
    lineCtrlWord_out s, lineCtrlWord_in s, lineCtrlWord_reserved s⟩
  · rw [hwrite, writeLineCtrl_of_idle (s := { s with reply := .done }) hidle]
  · rw [hwrite, writeLineCtrl_of_busy (s := { s with reply := .done }) hbusy]

/-! ### The sample of a Tick (R201, R202)

The wait phases of an OW.READ leave the line alone; its other phases change only MODE and OUT. -/

section Sample

variable {p : Params} {s : State}

theorem failAttempt_line (reason : ResultCode) (fp : OwPhase) (fb : BitVec 6) :
    (failAttempt p reason fp fb s).line = s.line := by
  obtain ⟨-, hf⟩ | ⟨-, hf⟩ := failAttempt_cases p reason fp fb s
  · rw [hf]; rfl
  · rw [hf]; rfl

theorem frameDone_line : (frameDone p s).line = s.line := by
  unfold frameDone
  split
  · rfl
  · exact failAttempt_line _ _ _

theorem storeBit_line (e : Nat) : (storeBit p e s).line = s.line := by
  dsimp only [storeBit]
  split
  · rfl
  · exact frameDone_line

theorem owAdvance_line (ph : OwPhase) (e : Nat) : (owAdvance p ph e s).line = s.line := by
  cases ph with
  | bitLow => exact storeBit_line e
  | _ => rfl

theorem owWaitTick_line (ph : OwPhase) (sample : Bool) : (owWaitTick p ph sample s).line = s.line := by
  unfold owWaitTick
  split
  · exact owAdvance_line ph _
  · exact failAttempt_line _ _ _
  · rfl

theorem delayTick_sync2 {n : Nat} {next : State → State} (h : ∀ u : State, (next u).line.sync2 = u.line.sync2) :
    (delayTick n next s).line.sync2 = s.line.sync2 := by
  obtain ⟨-, hd⟩ | ⟨-, hd⟩ := delayTick_cases n next s
  · rw [hd, h]
  · rw [hd]

theorem owTick_sync2 (sample : Bool) : (owTick p sample s).line.sync2 = s.line.sync2 := by
  unfold owTick
  split
  case h_1 => rfl
  case h_2 | h_3 => exact delayTick_sync2 fun _ => rfl
  case h_10 => rfl
  all_goals rw [owWaitTick_line]

/-- LINE_CTRL.IN after a Tick is the sample taken before the sequencer acted. -/
theorem tick_sync2 (e : Bool) : (tick p e s).line.sync2 = lineSample e s := by
  by_cases ha : s.seq.active = .ow
  · rw [tick_of_ow ha, owTick_sync2, latchSample_line]
  · rw [tick_line e ha, latchSample_line]

end Sample

/-- Settles O30: a Tick latches the sample first, and no unit's part of the Tick touches the synchroniser. -/
theorem tickSamplesTheLine : Obligations.TickSamplesTheLine := by
  intro p e s t htick
  rw [handleEvent_tick] at htick
  cases htick
  exact (lineCtrlWord_in (tick p e s)).trans (tick_sync2 e)

/-! ### LINE.WAIT over a line trace (R209 to R217) -/

/-- What LINE.WAIT leaves alone: MODE and OUT, and the result registers of the other commands (R216). -/
structure KeepsDriveAndResults (s t : State) : Prop where
  mode : t.line.mode = s.line.mode
  out : t.line.out = s.line.out
  owRegs : t.owRegs = s.owRegs
  fsValue : t.fsValue = s.fsValue
  cmpRegs : t.cmpRegs = s.cmpRegs

/-- The LINE.WAIT accepted in `s` has not ended in `u`, and evaluates the next sample at the count `k`. -/
structure LineWaiting (s : State) (level : Bool) (timeout k : Nat) (u : State) : Prop extends
    KeepsDriveAndResults s u where
  status : u.status = { s.status with lastOp := 0x04, result := .ok, done := false, busy := true }
  seq : u.seq = { active := .lw, phase := .lwWait, k := k, lwLevel := level, lwTimeout := BitVec.ofNat 16 timeout }

/-- The LINE.WAIT accepted in `s` has ended in `t` with the code `c`, and LINE_ELAPSED reads `elapsed`. -/
structure LineWaitEnded (s : State) (c : ResultCode) (elapsed : Nat) (t : State) : Prop extends
    KeepsDriveAndResults s t where
  lineElapsed : regWord .lineElapsed t = BitVec.ofNat 32 elapsed
  status : t.status = { s.status with lastOp := 0x04, result := c, done := true, busy := false }
  active : t.seq.active = .none

section LineWait

variable {p : Params} {s u : State} {level : Bool} {timeout k : Nat}

/-- While MODE and OUT stay, the same environment gives the same samples. -/
theorem KeepsDriveAndResults.lineSample_eq (h : KeepsDriveAndResults s u) (e : Bool) :
    lineSample e u = lineSample e s := by
  rw [lineSample, lineSample, h.mode, h.out]

theorem lineElapsed_lwFinish (c : ResultCode) {n : Nat} (hn : n ≤ 65535) (s : State) :
    regWord .lineElapsed (lwFinish n c s) = BitVec.ofNat 32 n := by
  apply BitVec.eq_of_toNat_eq
  simp only [regWord, lwFinish, finish_lineElapsed, BitVec.toNat_setWidth, BitVec.toNat_ofNat]
  omega

theorem LineWaiting.tick_eq (h : LineWaiting s level timeout k u) (e : Bool) :
    tick p e u = lwTick (lineSample e s) (latchSample (lineSample e s) u) := by
  rw [tick_of_lw (by rw [h.seq]), h.lineSample_eq]

/-- One evaluation of an unfinished LINE.WAIT is `WaitForLevel` on its operands at its count. -/
theorem LineWaiting.waitEval_eq (h : LineWaiting s level timeout k u) (ht : timeout ≤ 65535) (sample : Bool) :
    waitEval u.seq.lwLevel u.seq.lwTimeout.toNat u.seq.k sample = waitEval level timeout k sample := by
  have hlimit : (BitVec.ofNat 16 timeout).toNat = timeout := by
    rw [BitVec.toNat_ofNat]
    omega
  simp only [h.seq, hlimit]

theorem LineWaiting.ended_lwFinish (h : LineWaiting s level timeout k u) (c : ResultCode) {n : Nat} (hn : n ≤ 65535)
    (l : Bool) : LineWaitEnded s c n (lwFinish n c (latchSample l u)) where
  toKeepsDriveAndResults := { h.toKeepsDriveAndResults with }
  lineElapsed := lineElapsed_lwFinish c hn _
  status := by simp [lwFinish, h.status]
  active := rfl

/-- A sample at the awaited level ends the wait OK, at the deadline too (R211). -/
theorem LineWaiting.tick_match (h : LineWaiting s level timeout k u) (ht : timeout ≤ 65535) (hk : k ≤ timeout)
    {e : Bool} (he : lineSample e s = level) : LineWaitEnded s .ok k (tick p e u) := by
  have heval := h.waitEval_eq ht (lineSample e s)
  obtain ⟨-, hw⟩ | ⟨hne, -⟩ | ⟨hne, -⟩ := waitEval_cases level timeout k (lineSample e s)
  · rw [h.tick_eq, lwTick, latchSample_seq, heval, hw]
    exact h.ended_lwFinish .ok (hk.trans ht) _
  · exact absurd he hne
  · exact absurd he hne

/-- Another sample at the deadline ends the wait with TIMEOUT. -/
theorem LineWaiting.tick_deadline (h : LineWaiting s level timeout timeout u) (ht : timeout ≤ 65535) {e : Bool}
    (he : lineSample e s ≠ level) : LineWaitEnded s .timeout 0 (tick p e u) := by
  have heval := h.waitEval_eq ht (lineSample e s)
  obtain ⟨heq, -⟩ | ⟨-, -, hw⟩ | ⟨-, hlt, -⟩ := waitEval_cases level timeout timeout (lineSample e s)
  · exact absurd heq he
  · rw [h.tick_eq, lwTick, latchSample_seq, heval, hw]
    exact h.ended_lwFinish .timeout (Nat.zero_le _) _
  · exact absurd hlt (lt_irrefl timeout)

/-- Another sample before the deadline counts on. -/
theorem LineWaiting.tick_more (h : LineWaiting s level timeout k u) (ht : timeout ≤ 65535) (hk : k < timeout)
    {e : Bool} (he : lineSample e s ≠ level) : LineWaiting s level timeout (k + 1) (tick p e u) := by
  have heval := h.waitEval_eq ht (lineSample e s)
  obtain ⟨heq, -⟩ | ⟨-, hge, -⟩ | ⟨-, -, hw⟩ := waitEval_cases level timeout k (lineSample e s)
  · exact absurd heq he
  · exact absurd hk (not_lt.mpr hge)
  · rw [h.tick_eq, lwTick, latchSample_seq, heval, hw]
    exact { h.toKeepsDriveAndResults with
      status := h.status
      seq := by rw [countOn_seq, latchSample_seq, h.seq] }

/-- The wait goes on over other samples as long as they do not reach past the deadline. -/
theorem LineWaiting.run (h : LineWaiting s level timeout k u) (ht : timeout ≤ 65535) {levels : List Bool}
    (hlevels : ∀ x ∈ levels, lineSample x s ≠ level) (hk : k + levels.length ≤ timeout) :
    ∃ v, runEvents p (ticks levels) u = .next v ∧ LineWaiting s level timeout (k + levels.length) v := by
  induction levels generalizing k u with
  | nil => exact ⟨u, rfl, h⟩
  | cons e rest ih =>
    obtain ⟨he, hrest⟩ := List.forall_mem_cons.mp hlevels
    rw [List.length_cons] at hk
    obtain ⟨v, hrun, hv⟩ := ih (h.tick_more (p := p) ht (by omega) he) hrest (by omega)
    refine ⟨v, (runEvents_cons (handleEvent_tick p e u)).trans hrun, ?_⟩
    rw [List.length_cons, Nat.add_comm rest.length, ← Nat.add_assoc]
    exact hv

/-- The accepting CMD write begins the wait at count 0 (R209, R216). -/
theorem lineWaiting_of_accepted (p : Params) (level : Bool) (hidle : s.status.busy = false) (ht : timeout ≤ 65535) :
    ∃ u, handleEvent p (WR .cmd (encode (.lineWait level timeout))) s = .next u ∧
      LineWaiting s level timeout 0 u := by
  have hdecode : decode (encode (.lineWait level timeout)) = .command (.lineWait level timeout) :=
    decodeOfEncode _ (decide_eq_true ht)
  obtain ⟨u, hexec, rfl, -⟩ := lineWaitIsAccepted { s with reply := .done } level timeout hidle
  have haccept : handleEvent p (WR .cmd (encode (.lineWait level timeout))) s =
      exec (.lineWait level timeout) { s with reply := .done } := by
    rw [handleEvent_WR]
    simp only [writeReg, writeCmd, hdecode]
  exact ⟨_, haccept.trans hexec, ⟨rfl, rfl, rfl, rfl, rfl⟩, rfl, rfl⟩

/-- From acceptance over other samples up to the deadline. -/
theorem lineWait_run (p : Params) (hidle : s.status.busy = false) (ht : timeout ≤ 65535) {levels : List Bool}
    (hlevels : ∀ x ∈ levels, lineSample x s ≠ level) (hlength : levels.length ≤ timeout) :
    ∃ u, runEvents p (WR .cmd (encode (.lineWait level timeout)) :: ticks levels) s = .next u ∧
      LineWaiting s level timeout levels.length u := by
  obtain ⟨u, haccept, hu⟩ := lineWaiting_of_accepted p level hidle ht
  obtain ⟨v, hrun, hv⟩ := hu.run (p := p) ht hlevels (by omega)
  rw [Nat.zero_add] at hv
  exact ⟨v, (runEvents_cons haccept).trans hrun, hv⟩

/-- One Tick more, after a run over a line trace. -/
theorem runEvents_ticks_snoc {ev : Event} {levels : List Bool} (h : runEvents p (ev :: ticks levels) s = .next u)
    (e : Bool) : runEvents p (ev :: ticks (levels ++ [e])) s = .next (tick p e u) := by
  rw [ticks, List.map_append, ← List.cons_append]
  exact (runEvents_append h).trans rfl

end LineWait

/-- Settles O32: the wait runs over the samples before the last one, which then ends it: at the awaited level with the
count, or as another one with the deadline. -/
theorem lineWaitEndsAtFirstMatchOrDeadline : Obligations.LineWaitEndsAtFirstMatchOrDeadline := by
  intro p s level timeout before hidle ht hbefore
  constructor
  · intro hlength
    obtain ⟨u, hrun, hu⟩ := lineWait_run p hidle ht hbefore hlength
    refine ⟨⟨u, hrun, by rw [hu.status], by rw [hu.seq]⟩, fun e he => ?_⟩
    have hend : LineWaitEnded s .ok before.length (tick p e u) := hu.tick_match ht hlength he
    exact ⟨_, runEvents_ticks_snoc hrun e, hend.lineElapsed, hend.status, hend.active, hend.mode, hend.out,
      hend.owRegs, hend.fsValue, hend.cmpRegs⟩
  · intro hlength
    obtain rfl | ⟨init, last, rfl⟩ := before.eq_nil_or_concat'
    · cases hlength
    · obtain ⟨hinit, hlast⟩ := List.forall_mem_append.mp hbefore
      obtain rfl : init.length = timeout := by simpa using hlength
      obtain ⟨u, hrun, hu⟩ := lineWait_run p hidle ht hinit le_rfl
      have hend : LineWaitEnded s .timeout 0 (tick p last u) :=
        hu.tick_deadline ht (hlast last (List.mem_singleton_self _))
      exact ⟨_, runEvents_ticks_snoc hrun last, hend.lineElapsed, hend.status, hend.active, hend.mode, hend.out,
        hend.owRegs, hend.fsValue, hend.cmpRegs⟩

end Sys2Proof.Machine
end

section
/-! PROOFS: the one-wire frame (41_onewire.md R239 to R244): its bits and bytes, its checksum and the temperature in it; and
the acceptance of an OW.READ (R230). -/

namespace Sys2Proof.Machine

open Sys2Proof

/-! ### Bits and bytes (R241) -/

section Frame

variable {frame shreg : BitVec 40}

/-- The first bit of byte `Bj` to arrive is its most significant one. -/
theorem getLsbD_frameByte (shreg : BitVec 40) {j m : Nat} (hj : j < 5) (hm : m < 8) :
    (frameByte shreg j).getLsbD (7 - m) = frameBit shreg (8 * j + m) := by
  have hplace : 32 - 8 * j + (7 - m) = 39 - (8 * j + m) := by omega
  have hin : 7 - m < 8 := by omega
  simp [frameByte, frameBit, hplace, hin]

/-- A byte by its bits, the most significant one first. -/
theorem toNat_eq_sum_getLsbD (b : Byte) :
    b.toNat = ((List.range 8).map (fun m => (b.getLsbD (7 - m)).toNat * 2 ^ (7 - m))).sum := by
  have hbit : ∀ i, (b.getLsbD i).toNat = b.toNat / 2 ^ i % 2 := Nat.toNat_testBit b.toNat
  simp only [hbit, List.sum_range_succ, List.range_zero, List.map_nil, List.sum_nil]
  omega

/-- Frames with the same bits are the same. -/
theorem frame_ext (h : ∀ i, i < 40 → frameBit frame i = frameBit shreg i) : frame = shreg := by
  apply BitVec.eq_of_getLsbD_eq
  intro i hi
  have hplace : 39 - (39 - i) = i := by omega
  simpa only [frameBit, hplace] using h (39 - i) (by omega)

/-- A number whose low part is a field of its own: the parts add. -/
theorem toNat_append_eq_add {m n : Nat} (hi : BitVec m) (lo : BitVec n) :
    (hi ++ lo).toNat = hi.toNat * 2 ^ n + lo.toNat := by
  rw [BitVec.toNat_append, ← Nat.shiftLeft_add_eq_or_of_lt lo.isLt, Nat.shiftLeft_eq]

theorem toNat_frameHumidity (shreg : BitVec 40) :
    (frameHumidity shreg).toNat = (frameByte shreg 0).toNat * 256 + (frameByte shreg 1).toNat :=
  toNat_append_eq_add _ _

/-- The checksum check, in numbers (R244). -/
theorem frameChecksumOk_iff : frameChecksumOk shreg = true ↔
    (frameByte shreg 4).toNat =
      ((frameByte shreg 0).toNat + (frameByte shreg 1).toNat + (frameByte shreg 2).toNat +
        (frameByte shreg 3).toNat) % 256 := by
  rw [frameChecksumOk, beq_iff_eq, ← BitVec.toNat_inj]
  simp only [BitVec.toNat_add, Nat.mod_add_mod]

end Frame

/-- Settles O37: the byte by its own bits, each of which is the frame's bit of the same weight. -/
theorem frameByteIsSumOfItsBits : Obligations.FrameByteIsSumOfItsBits := by
  intro shreg j
  refine (toNat_eq_sum_getLsbD (frameByte shreg j)).trans (congrArg List.sum (List.map_congr_left fun m hm => ?_))
  rw [getLsbD_frameByte shreg j.isLt (List.mem_range.mp hm)]

/-! ### Temperature (R243) -/

/-- The magnitude of the temperature: its sign bit masked out (R243). -/
def frameMagnitude (shreg : BitVec 40) : Nat := (frameByte shreg 2).toNat % 128 * 256 + (frameByte shreg 3).toNat

theorem frameMagnitude_le (shreg : BitVec 40) : frameMagnitude shreg ≤ 32767 := by
  unfold frameMagnitude
  omega

theorem frameTemperature_eq (shreg : BitVec 40) :
    frameTemperature shreg =
      if 128 ≤ (frameByte shreg 2).toNat then -(frameMagnitude shreg : Int) else frameMagnitude shreg := by
  have hmask : (frameByte shreg 2 &&& 0x7F).toNat = (frameByte shreg 2).toNat % 128 :=
    Nat.and_two_pow_sub_one_eq_mod _ 7
  have hsign : (frameByte shreg 2).getLsbD 7 = decide (128 ≤ (frameByte shreg 2).toNat) :=
    BitVec.msb_eq_decide (frameByte shreg 2)
  simp only [frameTemperature, frameMagnitude, hmask, hsign, decide_eq_true_eq]

theorem frameTemperature_range (shreg : BitVec 40) :
    -32767 ≤ frameTemperature shreg ∧ frameTemperature shreg ≤ 32767 := by
  have hle := frameMagnitude_le shreg
  rw [frameTemperature_eq]
  split <;> omega

/-- The stored temperature reads back as the temperature. -/
theorem toInt_u32_frameTemperature (shreg : BitVec 40) :
    (u32 (frameTemperature shreg)).toInt = frameTemperature shreg := by
  obtain ⟨hlo, hhi⟩ := frameTemperature_range shreg
  exact sext_u32 (by omega) (by omega)

/-- Negative zero is zero (R243). -/
theorem frameTemperature_negative_zero {shreg : BitVec 40} (h2 : frameByte shreg 2 = 0x80)
    (h3 : frameByte shreg 3 = 0) : frameTemperature shreg = 0 := by
  simp [frameTemperature_eq, frameMagnitude, h2, h3]

/-- Settles O38: sign and magnitude fit 16 bits, so the 32-bit pattern holds the number itself. -/
theorem temperatureIsSignMagnitude : Obligations.TemperatureIsSignMagnitude := by
  intro shreg
  obtain ⟨hlo, hhi⟩ := frameTemperature_range shreg
  refine ⟨frameTemperature_eq shreg, hlo, hhi, toInt_u32_frameTemperature shreg, fun h2 h3 => ?_⟩
  rw [frameTemperature_negative_zero h2 h3]
  rfl

/-! ### Acceptance (R230) -/

/-- Settles O8: the acceptance of an idle SFE, then the start of OW.READ. -/
theorem owReadIsAccepted : Obligations.OwReadIsAccepted := by
  intro s hidle
  have hexec : exec .owRead s = .next (accept opcOwRead owStart s) := rfl
  rw [accept_of_idle hidle] at hexec
  exact hexec

end Sys2Proof.Machine
end

section
/-! PROOFS: OW.READ over line traces (41_onewire.md R230 to R257): the delays that begin and end the request pulse, the
wait phases tick by tick, the end of a failed attempt, and the reception of a whole frame. -/

namespace Sys2Proof.Machine

open Sys2Proof

/-! ### Runs of Ticks -/

/-- The state after one Tick per level of a line trace. -/
def afterTicks (p : Params) (levels : List Bool) (s : State) : State := levels.foldl (fun u e => tick p e u) s

/-- A run of Ticks always completes. -/
theorem runEvents_ticks (p : Params) (levels : List Bool) (s : State) :
    runEvents p (ticks levels) s = .next (afterTicks p levels s) := by
  induction levels generalizing s with
  | nil => rfl
  | cons e rest ih => exact (runEvents_cons (handleEvent_tick p e s)).trans (ih (tick p e s))

theorem afterTicks_cons (p : Params) (e : Bool) (rest : List Bool) (s : State) :
    afterTicks p (e :: rest) s = afterTicks p rest (tick p e s) := rfl

theorem afterTicks_append (p : Params) (first second : List Bool) (s : State) :
    afterTicks p (first ++ second) s = afterTicks p second (afterTicks p first s) :=
  List.foldl_append

theorem afterTicks_snoc (p : Params) (init : List Bool) (last : Bool) (s : State) :
    afterTicks p (init ++ [last]) s = tick p last (afterTicks p init s) :=
  afterTicks_append p init [last] s

/-! ### Delays (R15, R232, R234, R248) -/

/-- `u` is `s` after `n` ticks that only counted: of the state OW.READ works on, the count has changed. -/
structure Counted (s : State) (n : Nat) (u : State) : Prop where
  seq : u.seq = { s.seq with k := s.seq.k + n }
  ow : u.ow = s.ow
  status : u.status = s.status
  owRegs : u.owRegs = s.owRegs
  mode : u.line.mode = s.line.mode
  out : u.line.out = s.line.out

theorem Counted.refl (s : State) : Counted s 0 s := ⟨rfl, rfl, rfl, rfl, rfl, rfl⟩

section Delay

variable {p : Params} {s u : State} {n : Nat}

/-- A Tick that only samples and counts is one tick more. -/
theorem Counted.succ (h : Counted s n u) (l : Bool) : Counted s (n + 1) (countOn (latchSample l u)) where
  seq := by rw [countOn_seq, latchSample_seq, h.seq, Nat.add_assoc]
  ow := h.ow
  status := h.status
  owRegs := h.owRegs
  mode := h.mode
  out := h.out

/-- While MODE and OUT stay, the same environment gives the same samples. -/
theorem Counted.lineSample_eq (h : Counted s n u) (e : Bool) : lineSample e u = lineSample e s := by
  rw [lineSample, lineSample, h.mode, h.out]

theorem owTick_owStart (h : s.seq.phase = .owStart) (sample : Bool) : owTick p sample s = beginAttempt s := by
  simp only [owTick, h]

theorem owTick_requestPulse (h : s.seq.phase = .ow .requestPulse) (sample : Bool) :
    owTick p sample s = delayTick p.owTReq releaseLine s := by
  simp only [owTick, h]

theorem owTick_backoff (h : s.seq.phase = .ow .backoff) (sample : Bool) :
    owTick p sample s = delayTick p.owBackoff beginAttempt s := by
  simp only [owTick, h]

/-- A control point at which OW.READ only waits for a delay of `n` ticks, and then does `next`. -/
structure Delaying (p : Params) (n : Nat) (next : State → State) (s : State) : Prop where
  active : s.seq.active = .ow
  delays : ∀ u : State, u.seq.phase = s.seq.phase → ∀ sample, owTick p sample u = delayTick n next u

theorem delaying_requestPulse (hactive : s.seq.active = .ow) (hphase : s.seq.phase = .ow .requestPulse) :
    Delaying p p.owTReq releaseLine s :=
  ⟨hactive, fun _ hu sample => owTick_requestPulse (hu.trans hphase) sample⟩

theorem delaying_backoff (hactive : s.seq.active = .ow) (hphase : s.seq.phase = .ow .backoff) :
    Delaying p p.owBackoff beginAttempt s :=
  ⟨hactive, fun _ hu sample => owTick_backoff (hu.trans hphase) sample⟩

variable {next : State → State} {m : Nat}

theorem Delaying.tick_eq (hd : Delaying p n next s) (h : Counted s m u) (e : Bool) :
    tick p e u = delayTick n next (latchSample (lineSample e s) u) := by
  rw [tick_of_ow (by rw [h.seq]; exact hd.active), h.lineSample_eq]
  exact hd.delays _ (by rw [latchSample_seq, h.seq]) _

/-- A tick before the delay's last one counts. -/
theorem Delaying.tick_counts (hd : Delaying p n next s) (h : Counted s m u) (hm : s.seq.k + m + 1 < n) (e : Bool) :
    Counted s (m + 1) (tick p e u) := by
  have hk : u.seq.k = s.seq.k + m := by rw [h.seq]
  rw [hd.tick_eq h]
  obtain ⟨hend, -⟩ | ⟨-, ht⟩ := delayTick_cases n next (latchSample (lineSample e s) u)
  · rw [latchSample_seq, hk] at hend
    omega
  · rw [ht]
    exact h.succ _

/-- The delay's last tick counts too, and does what comes next. -/
theorem Delaying.tick_ends (hd : Delaying p n next s) (h : Counted s m u) (hm : s.seq.k + m + 1 = n) (e : Bool) :
    tick p e u = next (countOn (latchSample (lineSample e s) u)) := by
  have hk : u.seq.k = s.seq.k + m := by rw [h.seq]
  rw [hd.tick_eq h]
  obtain ⟨-, ht⟩ | ⟨hmore, -⟩ := delayTick_cases n next (latchSample (lineSample e s) u)
  · exact ht
  · rw [latchSample_seq, hk] at hmore
    omega

/-- A delay goes on over any levels as long as they do not reach its last tick. -/
theorem Delaying.run (hd : Delaying p n next s) {levels : List Bool} (hlength : s.seq.k + levels.length < n) :
    Counted s levels.length (afterTicks p levels s) := by
  induction levels using List.reverseRecOn with
  | nil => exact Counted.refl s
  | append_singleton init last ih =>
    rw [List.length_append, List.length_singleton] at hlength ⊢
    rw [afterTicks_snoc]
    exact hd.tick_counts (ih (by omega)) (by omega) last

/-- A delay over exactly its ticks ends in what comes next, done in a state that has only counted. -/
theorem Delaying.run_ends (hd : Delaying p n next s) {levels : List Bool} (hpos : s.seq.k < n)
    (hlength : s.seq.k + levels.length = n) :
    ∃ u e, Counted s levels.length u ∧ u.line.sync2 = lineSample e s ∧ afterTicks p levels s = next u := by
  obtain rfl | ⟨init, last, rfl⟩ := levels.eq_nil_or_concat'
  · rw [List.length_nil] at hlength
    omega
  · rw [List.length_append, List.length_singleton] at hlength ⊢
    have hinit : Counted s init.length (afterTicks p init s) := hd.run (by omega)
    refine ⟨_, last, hinit.succ _, rfl, ?_⟩
    rw [afterTicks_snoc]
    exact hd.tick_ends hinit hlength last

/-! ### The beginning of an attempt (R232, R248) -/

/-- An attempt is due in the next Tick: an OW.READ has just been accepted, or its back-off ends. -/
def AttemptDue (p : Params) (s : State) : Prop :=
  s.seq.active = .ow ∧ (s.seq.phase = .owStart ∨ (s.seq.phase = .ow .backoff ∧ s.seq.k + 1 = p.owBackoff))

/-- A due attempt begins in the Tick, in a state that has at most counted. -/
theorem AttemptDue.tick_begins (h : AttemptDue p s) (e : Bool) :
    ∃ u n, Counted s n u ∧ tick p e s = beginAttempt u := by
  obtain ⟨hactive, hstart | ⟨hback, hk⟩⟩ := h
  · refine ⟨latchSample (lineSample e s) s, 0, ⟨rfl, rfl, rfl, rfl, rfl, rfl⟩, ?_⟩
    rw [tick_of_ow hactive]
    exact owTick_owStart (s := latchSample (lineSample e s) s) hstart _
  · exact ⟨_, 1, (Counted.refl s).succ _, (delaying_backoff hactive hback).tick_ends (Counted.refl s) hk e⟩

end Delay

/-- SFE drives the line low, so every sample is low. -/
theorem lineSample_of_low {s : State} (hmode : s.line.mode = true) (hout : s.line.out = false) (e : Bool) :
    lineSample e s = false := by
  simp [lineSample, hmode, hout]

/-- Settles O33: a due attempt begins in its Tick, and a back-off is a delay whose last tick begins the next one. -/
theorem attemptBeginsInOneTick : Obligations.AttemptBeginsInOneTick := by
  constructor
  · intro p e s hactive hdue
    obtain ⟨u, n, hu, htick⟩ := AttemptDue.tick_begins ⟨hactive, hdue⟩ e
    rw [handleEvent_tick, htick]
    refine ⟨_, rfl, ?_, ?_, hu.status, rfl, rfl, lineSample_of_low rfl rfl⟩
    · rw [beginAttempt_ow, hu.ow]
    · rw [beginAttempt_seq, hu.seq]
  · intro p levels s hactive hphase hk hmode hout _ hpos hle
    have hd : Delaying p p.owBackoff beginAttempt s := delaying_backoff hactive hphase
    rw [runEvents_ticks]
    obtain hlt | hlength := Nat.lt_or_eq_of_le hle
    · have hu : Counted s levels.length (afterTicks p levels s) := hd.run (by omega)
      refine ⟨_, rfl, hu.status, hu.owRegs, hu.out.trans hout, fun _ => ⟨?_, hu.mode.trans hmode, hu.ow⟩, ?_⟩
      · rw [hu.seq, hk, Nat.zero_add]
      · exact fun hlength => absurd hlength hlt.ne
    · obtain ⟨u, -, hu, -, hend⟩ := hd.run_ends (levels := levels) (by omega) (by omega)
      rw [hend]
      refine ⟨_, rfl, hu.status, hu.owRegs, rfl, fun hlt => absurd hlength hlt.ne, fun _ => ⟨?_, rfl, ?_⟩⟩
      · rw [beginAttempt_seq, hu.seq]
      · rw [beginAttempt_ow, hu.ow]

/-- Settles O34: the pulse is a delay with the line driven low, whose last tick releases the line. -/
theorem requestPulseLastsItsTime : Obligations.RequestPulseLastsItsTime := by
  intro p s levels hpos hactive hphase hk hmode hout hle
  have hd : Delaying p p.owTReq releaseLine s := delaying_requestPulse hactive hphase
  rw [runEvents_ticks]
  obtain hlt | hlength := Nat.lt_or_eq_of_le hle
  · have hu : Counted s levels.length (afterTicks p levels s) := hd.run (by omega)
    refine ⟨_, rfl, hu.out.trans hout, hu.ow, hu.status, fun _ => ⟨hu.mode.trans hmode, ?_⟩, ?_⟩
    · rw [hu.seq]; exact hphase
    · exact fun hlength => absurd hlength hlt.ne
  · obtain ⟨u, e, hu, hsync, hend⟩ := hd.run_ends (levels := levels) (by omega) (by omega)
    rw [hend]
    exact ⟨_, rfl, hu.out.trans hout, hu.ow, hu.status, fun hlt => absurd hlength hlt.ne,
      fun _ => ⟨rfl, rfl, hsync.trans (lineSample_of_low hmode hout e)⟩⟩

/-! ### The end of a failed attempt (R246 to R251) -/

/-- OW_STAT's fields lie side by side: FAIL_BIT, FAIL_PHASE, FAIL_REASON and ATTEMPTS (R59, R251). -/
theorem toNat_owStatWord (s : State) :
    (owStatWord s).toNat =
      s.ow.fb.toNat * 4096 + s.ow.fp.code.toNat * 256 + s.ow.fr.code.toNat * 16 + s.ow.attempt.toNat := by
  simp only [owStatWord, toNat_append_eq_add]
  simp only [BitVec.toNat_ofNat]
  omega

/-- A read of OW_STAT returns the status word as a number. -/
theorem toNat_owStat_of_stat {s t : State} (h : t.owRegs.stat = owStatWord s) :
    (regWord .owStat t).toNat =
      s.ow.fb.toNat * 4096 + s.ow.fp.code.toNat * 256 + s.ow.fr.code.toNat * 16 + s.ow.attempt.toNat := by
  rw [← toNat_owStatWord, ← h]
  exact BitVec.toNat_setWidth_of_le (by decide)

/-- The attempt running in `s` has failed in `t`, with the failure record `fr`, `fp` and `fb`: before the last attempt the
back-off begins, and the last attempt ends the command with the results 0 (R248 to R251). -/
structure AttemptFailed (p : Params) (fr : ResultCode) (fp : OwPhase) (fb : BitVec 6) (s t : State) : Prop where
  ow : t.ow = { s.ow with fr := fr, fp := fp, fb := fb }
  mode : t.line.mode = s.line.mode
  out : t.line.out = s.line.out
  fsValue : t.fsValue = s.fsValue
  cmpRegs : t.cmpRegs = s.cmpRegs
  retry : s.ow.attempt.toNat ≠ p.owAttempts →
    t.seq = { s.seq with phase := .ow .backoff, k := 0 } ∧ t.owRegs = s.owRegs ∧ t.status = s.status
  status : s.ow.attempt.toNat = p.owAttempts →
    t.status = { s.status with result := .retriesExhausted, done := true, busy := false }
  seq : s.ow.attempt.toNat = p.owAttempts → t.seq = { s.seq with active := .none, phase := .idle }
  results : s.ow.attempt.toNat = p.owAttempts →
    regWord .owHum t = 0 ∧ regWord .owTemp t = 0 ∧ regWord .owRaw0 t = 0 ∧ regWord .owRaw1 t = 0
  stat : s.ow.attempt.toNat = p.owAttempts → (regWord .owStat t).toNat =
    fb.toNat * 4096 + fp.code.toNat * 256 + fr.code.toNat * 16 + s.ow.attempt.toNat

theorem attemptFailed_failAttempt (p : Params) (fr : ResultCode) (fp : OwPhase) (fb : BitVec 6) (s : State) :
    AttemptFailed p fr fp fb s (failAttempt p fr fp fb s) := by
  obtain ⟨hlast, hf⟩ | ⟨hne, hf⟩ := failAttempt_cases p fr fp fb s
  · rw [hf]
    exact {
      ow := rfl, mode := rfl, out := rfl, fsValue := rfl, cmpRegs := rfl
      retry := fun hne => absurd hlast hne
      status := fun _ => rfl
      seq := fun _ => rfl
      results := fun _ => ⟨rfl, rfl, rfl, rfl⟩
      stat := fun _ => toNat_owStat_of_stat (s := { s with ow := { s.ow with fr := fr, fp := fp, fb := fb } }) rfl }
  · rw [hf]
    exact {
      ow := rfl, mode := rfl, out := rfl, fsValue := rfl, cmpRegs := rfl
      retry := fun _ => ⟨rfl, rfl, rfl⟩
      status := fun hlast => absurd hlast hne
      seq := fun hlast => absurd hlast hne
      results := fun hlast => absurd hlast hne
      stat := fun hlast => absurd hlast hne }

/-! ### A Tick of a wait phase (R233 to R240) -/

/-- An OW.READ is in the wait phase `ph`. -/
structure InWait (ph : OwPhase) (s : State) : Prop where
  active : s.seq.active = .ow
  phase : s.seq.phase = .ow ph
  wait : ph.isWait = true

section Wait

variable {p : Params} {ph : OwPhase} {s : State} {e : Bool}

theorem InWait.tick_eq (h : InWait ph s) (e : Bool) :
    tick p e s = owWaitTick p ph (lineSample e s) (latchSample (lineSample e s) s) := by
  obtain ⟨hactive, hphase, hwait⟩ := h
  rw [tick_of_ow hactive]
  cases ph with
  | idle | requestPulse | backoff => cases hwait
  | _ => simp only [owTick, latchSample_seq, hphase]

/-- A sample at the awaited level ends the phase with its count, at the deadline too. -/
theorem InWait.tick_match (h : InWait ph s) (he : lineSample e s = ph.level) :
    tick p e s = owAdvance p ph s.seq.k (latchSample ph.level s) := by
  rw [h.tick_eq, he]
  obtain ⟨-, hw⟩ | ⟨hne, -⟩ | ⟨hne, -⟩ := waitEval_cases ph.level p.owTimeout s.seq.k ph.level
  · rw [owWaitTick, latchSample_seq, hw]
  · exact absurd rfl hne
  · exact absurd rfl hne

/-- Another sample before the deadline counts on. -/
theorem InWait.tick_more (h : InWait ph s) (he : lineSample e s ≠ ph.level) (hk : s.seq.k < p.owTimeout) :
    tick p e s = countOn (latchSample (lineSample e s) s) := by
  rw [h.tick_eq]
  obtain ⟨heq, -⟩ | ⟨-, hge, -⟩ | ⟨-, -, hw⟩ := waitEval_cases ph.level p.owTimeout s.seq.k (lineSample e s)
  · exact absurd heq he
  · exact absurd hk (not_lt.mpr hge)
  · rw [owWaitTick, latchSample_seq, hw]

/-- Another sample at the deadline fails the attempt. -/
theorem InWait.tick_deadline (h : InWait ph s) (he : lineSample e s ≠ ph.level) (hk : p.owTimeout ≤ s.seq.k) :
    tick p e s = owTimeout p ph (latchSample (lineSample e s) s) := by
  rw [h.tick_eq]
  obtain ⟨heq, -⟩ | ⟨-, -, hw⟩ | ⟨-, hlt, -⟩ := waitEval_cases ph.level p.owTimeout s.seq.k (lineSample e s)
  · exact absurd heq he
  · rw [owWaitTick, latchSample_seq, hw]
  · exact absurd hlt (not_lt.mpr hk)

/-- The engine with the bit of a BitLow stored that saw its low sample at the count `e` (R239). -/
def withBit (p : Params) (e : Nat) (s : State) : State :=
  { s with ow := { s.ow with
    shreg := setFrameBit s.ow.shreg s.ow.bitidx.toNat (decide (p.owBit1Min ≤ e))
    bitidx := s.ow.bitidx + 1 } }

theorem withBit_bitidx (e : Nat) (h : s.ow.bitidx.toNat < 40) :
    (withBit p e s).ow.bitidx.toNat = s.ow.bitidx.toNat + 1 := by
  show (s.ow.bitidx + 1).toNat = _
  bv_omega

theorem frameBit_withBit (e : Nat) (h : s.ow.bitidx.toNat < 40) {i : Nat} (hi : i < 40) :
    frameBit (withBit p e s).ow.shreg i =
      if i = s.ow.bitidx.toNat then decide (p.owBit1Min ≤ e) else frameBit s.ow.shreg i :=
  frameBit_setFrameBit _ _ _ _ h hi

/-- After a bit before the last one the next bit is awaited (R239). -/
theorem storeBit_of_lt (e : Nat) (h : s.ow.bitidx.toNat < 39) :
    storeBit p e s = enterWait .bitHigh (withBit p e s) := by
  have hnext := withBit_bitidx (p := p) e (h.trans (by decide))
  exact if_pos (show (withBit p e s).ow.bitidx.toNat < 40 by omega)

/-- After the last bit the frame is complete (R240). -/
theorem storeBit_of_last (e : Nat) (h : s.ow.bitidx.toNat = 39) : storeBit p e s = frameDone p (withBit p e s) := by
  have hnext := withBit_bitidx (p := p) e (h.trans_lt (by decide))
  exact if_neg (show ¬ (withBit p e s).ow.bitidx.toNat < 40 by omega)

theorem frameDone_of_ok (h : frameChecksumOk s.ow.shreg = true) : frameDone p s = owSucceed s := if_pos h

theorem frameDone_of_bad (h : frameChecksumOk s.ow.shreg = false) :
    frameDone p s = failAttempt p .checksumMismatch .idle 0 s := by
  simp [frameDone, h]

end Wait

/-- Settles O35: BitLow's low sample stores the bit and awaits the next one. -/
theorem bitIsClassifiedByItsHighTime : Obligations.BitIsClassifiedByItsHighTime := by
  intro p x s hactive hphase hbit he
  have hlt : s.ow.bitidx.toNat < 40 := hbit.trans (by decide)
  have hwait : InWait .bitLow s := ⟨hactive, hphase, rfl⟩
  have htick : tick p x s = enterWait .bitHigh (withBit p s.seq.k (latchSample false s)) :=
    (hwait.tick_match he).trans (storeBit_of_lt (s := latchSample false s) s.seq.k hbit)
  rw [handleEvent_tick, htick]
  have hbits := fun i (hi : i < 40) => frameBit_withBit (p := p) (s := latchSample false s) s.seq.k hlt hi
  refine ⟨_, rfl, ?_, fun i hi hne => ?_, ?_, rfl, rfl, rfl⟩
  · exact (hbits _ hlt).trans (if_pos rfl)
  · exact (hbits i hi).trans (if_neg hne)
  · exact withBit_bitidx (s := latchSample false s) s.seq.k hlt

/-- Settles O36: the deadline's sample fails the attempt with the phase, and with the bit index in the two bit phases. -/
theorem waitTimeoutFailsTheAttempt : Obligations.WaitTimeoutFailsTheAttempt := by
  intro p x s ph hwait hactive hphase hk he
  have hin : InWait ph s := ⟨hactive, hphase, hwait⟩
  rw [handleEvent_tick, hin.tick_deadline he hk.ge]
  have hfail := attemptFailed_failAttempt p .timeout ph (if ph = .bitHigh ∨ ph = .bitLow then s.ow.bitidx else 0)
    (latchSample (lineSample x s) s)
  refine ⟨_, rfl, hfail.ow, hfail.mode, hfail.out, hfail.fsValue, hfail.cmpRegs, hfail.retry, fun hlast => ?_⟩
  obtain ⟨hhum, htemp, hraw0, hraw1⟩ := hfail.results hlast
  have hseq := hfail.seq hlast
  refine ⟨hfail.status hlast, congrArg Sequencer.active hseq, congrArg Sequencer.phase hseq, hhum, htemp, hraw0, hraw1,
    (hfail.stat hlast).trans ?_⟩
  rw [apply_ite BitVec.toNat]
  rfl

/-- Settles O40: the last bit completes the frame, whose checksum fails the attempt in the same event. -/
theorem badChecksumFailsTheAttempt : Obligations.BadChecksumFailsTheAttempt := by
  intro p x s hactive hphase hbit he hbad
  have hin : InWait .bitLow s := ⟨hactive, hphase, rfl⟩
  have hlast : s.ow.bitidx.toNat = 39 := by rw [hbit]; rfl
  have hstore : tick p x s = frameDone p (withBit p s.seq.k (latchSample false s)) :=
    (hin.tick_match he).trans (storeBit_of_last (s := latchSample false s) s.seq.k hlast)
  rw [← hlast] at hbad
  rw [handleEvent_tick, hstore, frameDone_of_bad hbad]
  have hfail := attemptFailed_failAttempt p .checksumMismatch .idle 0 (withBit p s.seq.k (latchSample false s))
  refine ⟨_, rfl, congrArg OwEngine.fr hfail.ow, congrArg OwEngine.fp hfail.ow, congrArg OwEngine.fb hfail.ow,
    by rw [hfail.ow]; rfl, hfail.retry, fun hexhausted => ?_⟩
  obtain ⟨hhum, htemp, hraw0, hraw1⟩ := hfail.results hexhausted
  exact ⟨hfail.status hexhausted, hhum, htemp, hraw0, hraw1, hfail.stat hexhausted⟩

/-! ### The reception of a frame (R235 to R245, R257) -/

/-- The attempt that was due in `s` receives in `u`: it is in the wait phase `ph` at the count `k`, the first `i` bits of
`frame` are stored, and nothing but the engine's count, bits and line sample has changed since the attempt began. -/
structure Receiving (frame : BitVec 40) (s : State) (ph : OwPhase) (k i : Nat) (u : State) : Prop extends
    InWait ph u where
  count : u.seq.k = k
  attempt : u.ow.attempt = s.ow.attempt + 1
  fr : u.ow.fr = s.ow.fr
  fp : u.ow.fp = s.ow.fp
  fb : u.ow.fb = s.ow.fb
  status : u.status = s.status
  owRegs : u.owRegs = s.owRegs
  mode : u.line.mode = false
  out : u.line.out = false
  bitidx : u.ow.bitidx.toNat = i
  bits : ∀ j, j < i → frameBit u.ow.shreg j = frameBit frame j

section Reception

variable {p : Params} {frame : BitVec 40} {s u : State} {ph next : OwPhase} {k i n : Nat}

/-- The line is released, so a sample is the environment's level. -/
theorem Receiving.lineSample_eq (h : Receiving frame s ph k i u) (e : Bool) : lineSample e u = e := by
  simp [lineSample, h.mode]

/-- The other level counts on. -/
theorem Receiving.tick_more (h : Receiving frame s ph k i u) (hk : k < p.owTimeout) :
    Receiving frame s ph (k + 1) i (tick p (!ph.level) u) := by
  have hmiss : lineSample (!ph.level) u ≠ ph.level := by simp [h.lineSample_eq]
  rw [h.toInWait.tick_more hmiss (h.count.trans_lt hk)]
  exact { h with count := congrArg (· + 1) h.count }

/-- A phase goes on over samples of the other level up to the deadline. -/
theorem Receiving.run_more (h : Receiving frame s ph k i u) (hn : k + n ≤ p.owTimeout) :
    Receiving frame s ph (k + n) i (afterTicks p (List.replicate n (!ph.level)) u) := by
  induction n with
  | zero => exact h
  | succ n ih =>
    rw [List.replicate_succ', afterTicks_snoc]
    exact (ih (by omega)).tick_more (by omega)

/-- The awaited level is held for `n` samples: the first one ends the phase, and the next phase counts the others. -/
theorem Receiving.run_next {j : Nat} (hnext : Receiving frame s next 1 j (tick p ph.level u))
    (hlevel : next.level = !ph.level) (hn : 1 ≤ n ∧ n ≤ p.owTimeout) :
    Receiving frame s next n j (afterTicks p (List.replicate n ph.level) u) := by
  obtain ⟨m, rfl⟩ : ∃ m, n = m + 1 := ⟨n - 1, by omega⟩
  have hother : ph.level = !next.level := by rw [hlevel, Bool.not_not]
  rw [List.replicate_succ, afterTicks_cons, Nat.add_comm]
  nth_rw 1 [hother]
  exact hnext.run_more (by omega)

/-- A phase that stores no bit ends at the awaited level: the next phase begins at count 1. -/
theorem Receiving.tick_advance (h : Receiving frame s ph k i u)
    (hadvance : ∀ e v, owAdvance p ph e v = enterWait next v) (hwait : next.isWait = true) :
    Receiving frame s next 1 i (tick p ph.level u) := by
  rw [h.tick_match (h.lineSample_eq _), hadvance]
  exact { h with phase := rfl, wait := hwait, count := rfl }

/-- A held level takes a phase that stores no bit to the next one. -/
theorem Receiving.run_advance (h : Receiving frame s ph k i u)
    (hadvance : ∀ e v, owAdvance p ph e v = enterWait next v) (hwait : next.isWait = true)
    (hlevel : next.level = !ph.level) (hn : 1 ≤ n ∧ n ≤ p.owTimeout) :
    Receiving frame s next n i (afterTicks p (List.replicate n ph.level) u) :=
  (h.tick_advance hadvance hwait).run_next hlevel hn

/-- A bit whose high time classifies it as the frame's bit extends the received part of the frame (R239). -/
theorem Receiving.bits_withBit (h : Receiving frame s .bitLow k i u) (hi : i < 40)
    (hbit : frameBit frame i = decide (p.owBit1Min ≤ k)) {j : Nat} (hj : j < i + 1) :
    frameBit (withBit p k u).ow.shreg j = frameBit frame j := by
  rw [frameBit_withBit k (h.bitidx.trans_lt hi) (by omega), h.bitidx]
  split
  · rename_i hji
    rw [hji, hbit]
  · exact h.bits j (by omega)

/-- The low sample after a bit before the last one stores the bit. -/
theorem Receiving.tick_store (h : Receiving frame s .bitLow k i u) (hi : i < 39)
    (hbit : frameBit frame i = decide (p.owBit1Min ≤ k)) :
    Receiving frame s .bitHigh 1 (i + 1) (tick p false u) := by
  have htick : tick p false u = enterWait .bitHigh (withBit p u.seq.k (latchSample false u)) :=
    (h.tick_match (h.lineSample_eq _)).trans
      (storeBit_of_lt (s := latchSample false u) u.seq.k (h.bitidx.trans_lt hi))
  have hidx : (withBit p k u).ow.bitidx.toNat = u.ow.bitidx.toNat + 1 :=
    withBit_bitidx k (h.bitidx.trans_lt (by omega))
  rw [htick, h.count]
  exact { h with
    phase := rfl
    wait := rfl
    count := rfl
    bitidx := hidx.trans (congrArg (· + 1) h.bitidx)
    bits := fun j hj => h.bits_withBit (by omega) hbit hj }

/-- A complete frame in the shift register is what the results of a successful OW.READ show (R242 to R245, R252). -/
theorem owDecoded_owSucceed {v : State} (hshreg : v.ow.shreg = frame) (hmode : v.line.mode = false)
    (hout : v.line.out = false) : owDecoded frame (owSucceed v) := by
  subst hshreg
  refine ⟨?_, toInt_u32_frameTemperature _, rfl, rfl, hmode, hout⟩
  rw [← toNat_frameHumidity]
  exact BitVec.toNat_setWidth_of_le (by decide)

/-- The OW.READ whose attempt was due in `s` has ended OK in `t` with `frame`, and OW_STAT holds the attempt's number and the
most recent failure (R245, R251, R257). -/
structure FrameDelivered (frame : BitVec 40) (s t : State) : Prop where
  status : t.status = { s.status with result := .ok, done := true, busy := false }
  decoded : owDecoded frame t
  stat : (regWord .owStat t).toNat =
    s.ow.fb.toNat * 4096 + s.ow.fp.code.toNat * 256 + s.ow.fr.code.toNat * 16 + (s.ow.attempt + 1).toNat

/-- The low sample after the last bit completes the frame: one that passes the checksum ends the command (R240, R245). -/
theorem Receiving.tick_last (h : Receiving frame s .bitLow k 39 u)
    (hbit : frameBit frame 39 = decide (p.owBit1Min ≤ k)) (hok : frameChecksumOk frame = true) :
    FrameDelivered frame s (tick p false u) := by
  have hstore : tick p false u = frameDone p (withBit p u.seq.k (latchSample false u)) :=
    (h.tick_match (h.lineSample_eq _)).trans (storeBit_of_last (s := latchSample false u) u.seq.k h.bitidx)
  have hframe : (withBit p k (latchSample false u)).ow.shreg = frame :=
    frame_ext fun j hj => h.bits_withBit (by decide) hbit hj
  rw [hstore, h.count, frameDone_of_ok (by rw [hframe]; exact hok)]
  refine ⟨?_, owDecoded_owSucceed hframe h.mode h.out, ?_⟩
  · rw [← h.status]
    rfl
  · rw [← h.fb, ← h.fp, ← h.fr, ← h.attempt]
    exact toNat_owStat_of_stat (s := withBit p k (latchSample false u)) rfl

/-- The first Tick of a due attempt and the OW_T_REQ ticks of its request pulse, under any levels, lead to the reception. -/
theorem AttemptDue.run_pulse (h : AttemptDue p s) (hreq : 1 ≤ p.owTReq) {pulse : List Bool}
    (hlength : pulse.length = p.owTReq + 1) : Receiving frame s .releaseHigh 1 0 (afterTicks p pulse s) := by
  obtain ⟨e, rest, rfl⟩ := List.exists_cons_of_length_eq_add_one hlength
  obtain ⟨b, n, hb, htick⟩ := h.tick_begins e
  have hactive : (beginAttempt b).seq.active = .ow := by rw [beginAttempt_seq, hb.seq]; exact h.1
  have hrest : (beginAttempt b).seq.k + rest.length = p.owTReq := by
    have hk : (beginAttempt b).seq.k = 0 := rfl
    rw [List.length_cons] at hlength
    omega
  obtain ⟨v, -, hv, -, hend⟩ := (delaying_requestPulse hactive rfl).run_ends hreq hrest
  rw [afterTicks_cons, htick, hend]
  exact {
    active := by rw [releaseLine_seq, hv.seq]; exact hactive
    phase := rfl
    wait := rfl
    count := rfl
    attempt := by rw [releaseLine_ow, hv.ow, beginAttempt_ow, hb.ow]
    fr := by rw [releaseLine_ow, hv.ow, beginAttempt_ow, hb.ow]
    fp := by rw [releaseLine_ow, hv.ow, beginAttempt_ow, hb.ow]
    fb := by rw [releaseLine_ow, hv.ow, beginAttempt_ow, hb.ow]
    status := hv.status.trans hb.status
    owRegs := hv.owRegs.trans hb.owRegs
    mode := rfl
    out := hv.out
    bitidx := by rw [releaseLine_ow, hv.ow]; rfl
    bits := nofun }

/-! ### The trace of one attempt -/

/-- The line trace of the first `n` frame bits: `lo i` samples low and `hi i` high (R238). -/
def bitLevels (lo hi : Nat → Nat) (n : Nat) : List Bool :=
  (List.range n).flatMap (fun i => List.replicate (lo i) false ++ List.replicate (hi i) true)

/-- The trace of one attempt without its last sample. -/
def beforeLastSample (h0 h1 l h2 : Nat) (lo hi : Nat → Nat) : List Bool :=
  List.replicate h0 false ++ List.replicate h1 true ++ List.replicate l false ++ List.replicate h2 true ++
    bitLevels lo hi 40

variable {h0 h1 l h2 : Nat} {lo hi : Nat → Nat}

/-- A sensor that sends `frame` and keeps the times of the protocol (R235, R238, R239, R257). -/
structure SensorSends (p : Params) (frame : BitVec 40) (h0 h1 l h2 : Nat) (lo hi : Nat → Nat) : Prop where
  release : h0 < p.owTimeout
  ready : 1 ≤ h1 ∧ h1 ≤ p.owTimeout
  ackLow : 1 ≤ l ∧ l ≤ p.owTimeout
  ackHigh : 1 ≤ h2 ∧ h2 ≤ p.owTimeout
  times : ∀ i, i < 40 → 1 ≤ lo i ∧ lo i ≤ p.owTimeout ∧ 1 ≤ hi i ∧ hi i ≤ p.owTimeout
  bits : ∀ i, i < 40 → frameBit frame i = decide (p.owBit1Min ≤ hi i)

theorem attemptTrace_eq : attemptTrace h0 h1 l h2 lo hi = beforeLastSample h0 h1 l h2 lo hi ++ [false] := rfl

theorem attemptTrace_dropLast : (attemptTrace h0 h1 l h2 lo hi).dropLast = beforeLastSample h0 h1 l h2 lo hi :=
  List.dropLast_concat

theorem bitLevels_succ (n : Nat) :
    bitLevels lo hi (n + 1) = bitLevels lo hi n ++ (List.replicate (lo n) false ++ List.replicate (hi n) true) := by
  simp [bitLevels, List.range_succ]

/-- The frame bits one after another, each stored by the sample that begins the next one. -/
theorem Receiving.run_bits (h : Receiving frame s .ackLow2 k 0 u) (hsend : SensorSends p frame h0 h1 l h2 lo hi)
    (hn : n < 40) : Receiving frame s .bitLow (hi n) n (afterTicks p (bitLevels lo hi (n + 1)) u) := by
  induction n with
  | zero =>
    obtain ⟨hlo1, hlo2, hhi⟩ := hsend.times 0 hn
    rw [bitLevels_succ, afterTicks_append, afterTicks_append]
    have hlow := h.run_advance (p := p) (next := .bitHigh) (fun _ _ => rfl) rfl rfl ⟨hlo1, hlo2⟩
    exact hlow.run_advance (fun _ _ => rfl) rfl rfl hhi
  | succ n ih =>
    obtain ⟨hlo1, hlo2, hhi⟩ := hsend.times (n + 1) hn
    rw [bitLevels_succ, afterTicks_append, afterTicks_append]
    have hstore := (ih (by omega)).tick_store (p := p) (by omega) (hsend.bits n (by omega))
    have hlow := hstore.run_next (ph := .bitLow) rfl ⟨hlo1, hlo2⟩
    exact hlow.run_advance (fun _ _ => rfl) rfl rfl hhi

/-- A sensor that keeps the protocol's times brings the reception to the last bit's low sample. -/
theorem Receiving.run_beforeLastSample (h : Receiving frame s .releaseHigh 1 0 u)
    (hsend : SensorSends p frame h0 h1 l h2 lo hi) :
    Receiving frame s .bitLow (hi 39) 39 (afterTicks p (beforeLastSample h0 h1 l h2 lo hi) u) := by
  simp only [beforeLastSample, afterTicks_append]
  have hreleased := h.run_more (p := p) (n := h0) (by rw [Nat.add_comm]; exact hsend.release)
  have hackLow := hreleased.run_advance (p := p) (next := .ackLow) (fun _ _ => rfl) rfl rfl hsend.ready
  have hackHigh := hackLow.run_advance (p := p) (next := .ackHigh) (fun _ _ => rfl) rfl rfl hsend.ackLow
  have hackLow2 := hackHigh.run_advance (p := p) (next := .ackLow2) (fun _ _ => rfl) rfl rfl hsend.ackHigh
  exact hackLow2.run_bits hsend (by decide)

/-- A due attempt over a whole trace: the reception up to the last sample, which delivers the frame. -/
theorem AttemptDue.run_attempt (h : AttemptDue p s) (hreq : 1 ≤ p.owTReq) (hok : frameChecksumOk frame = true)
    {pulse : List Bool} (hpulse : pulse.length = p.owTReq + 1)
    (hsend : SensorSends p frame h0 h1 l h2 lo hi) :
    (∃ u, runEvents p (ticks (pulse ++ (attemptTrace h0 h1 l h2 lo hi).dropLast)) s = .next u ∧
      u.status = s.status ∧ u.owRegs = s.owRegs) ∧
    ∃ t, runEvents p (ticks (pulse ++ attemptTrace h0 h1 l h2 lo hi)) s = .next t ∧ FrameDelivered frame s t := by
  have hu : Receiving frame s .bitLow (hi 39) 39
      (afterTicks p (pulse ++ beforeLastSample h0 h1 l h2 lo hi) s) := by
    rw [afterTicks_append]
    exact (h.run_pulse hreq hpulse).run_beforeLastSample hsend
  rw [attemptTrace_dropLast, attemptTrace_eq, ← List.append_assoc, runEvents_ticks, runEvents_ticks, afterTicks_snoc]
  exact ⟨⟨_, rfl, hu.status, hu.owRegs⟩, _, rfl, hu.tick_last (hsend.bits 39 (by decide)) hok⟩

end Reception

/-- The CMD write of an OW.READ to an idle SFE makes its first attempt due (R230). -/
theorem owRead_write_of_idle (p : Params) {s : State} (hidle : s.status.busy = false) :
    ∃ u, handleEvent p (WR .cmd 0x00000001) s = .next u ∧ AttemptDue p u ∧
      u.status = { s.status with lastOp := 0x01, done := false, result := .ok, busy := true } ∧
      u.owRegs = s.owRegs ∧ u.ow = { s.ow with attempt := 0, fr := .ok, fp := .idle, fb := 0 } := by
  have hdecode : decode 0x00000001 = .command .owRead := decodeOfEncode .owRead rfl
  have haccept : handleEvent p (WR .cmd 0x00000001) s = exec .owRead { s with reply := .done } := by
    rw [handleEvent_WR]
    simp only [writeReg, writeCmd, hdecode]
  exact ⟨_, haccept.trans (owReadIsAccepted { s with reply := .done } hidle), ⟨rfl, .inl rfl⟩, rfl, rfl, rfl⟩

/-- Settles O39: an attempt that is due, after acceptance or as a back-off ends, receives the frame and delivers it. -/
theorem owReadDecodesEveryValidFrame : Obligations.OwReadDecodesEveryValidFrame := by
  intro p s frame pulse h0 h1 l h2 lo hi hwf hsum hpulse hh0 hh1 hl hh2 htimes hbits
  obtain ⟨-, -, hreq, -, -, hmax, -⟩ := Params.wf_iff.mp hwf
  have hok : frameChecksumOk frame = true := frameChecksumOk_iff.mpr hsum
  have hsend : SensorSends p frame h0 h1 l h2 lo hi := ⟨hh0, hh1, hl, hh2, htimes, hbits⟩
  constructor
  · intro hidle
    obtain ⟨a, hwrite, hdue, hstatus, hregs, how⟩ := owRead_write_of_idle p hidle
    obtain ⟨⟨u, hrun, hustatus, huregs⟩, t, hend, ht⟩ := hdue.run_attempt hreq hok hpulse hsend
    refine ⟨⟨u, (runEvents_cons hwrite).trans hrun, ?_, huregs.trans hregs⟩, t, (runEvents_cons hwrite).trans hend,
      ?_, ht.decoded, ?_⟩
    · rw [hustatus, hstatus]
    · rw [ht.status, hstatus]
    · rw [ht.stat]
      simp only [how]
      rfl
  · intro hbusy hactive hphase hk hlt
    have hdue : AttemptDue p s := ⟨hactive, .inr ⟨hphase, hk⟩⟩
    obtain ⟨⟨u, hrun, hustatus, huregs⟩, t, hend, ht⟩ := hdue.run_attempt hreq hok hpulse hsend
    refine ⟨⟨u, hrun, ?_, huregs⟩, t, hend, ht.status, ht.decoded, ?_⟩
    · rw [hustatus, hbusy]
    · have hnext : (s.ow.attempt + 1).toNat = s.ow.attempt.toNat + 1 := by bv_omega
      rw [ht.stat, hnext]

end Sys2Proof.Machine
end

section
/-! PROOFS: the formulas of the compensation (42_compensation.md): the packing of the coefficients (R285), the branch and the
zero divisor of the pressure (R293 to R296), the clamp of the humidity (R298). -/

namespace Sys2Proof.Machine

open Sys2Proof

/-! ### The image's coefficients (R284, R285) -/

/-- A byte read as a signed number. -/
theorem sext_byte (b : Byte) : sext b = if b.toNat < 128 then (b.toNat : Int) else (b.toNat : Int) - 256 := by
  rw [sext, BitVec.toInt_eq_toNat_cond]
  split <;> split <;> omega

theorem toNat_le16 (lo hi : Byte) : (le16 lo hi).toNat = lo.toNat + 256 * hi.toNat := by
  rw [le16, toNat_append_eq_add]
  omega

theorem zext_le16 (lo hi : Byte) : zext (le16 lo hi) = lo.toNat + 256 * hi.toNat := by
  rw [zext, toNat_le16]
  push_cast
  rfl

/-- Two bytes, little-endian, read as a signed number. -/
theorem sext_le16 (lo hi : Byte) :
    sext (le16 lo hi) =
      if (lo.toNat + 256 * hi.toNat : Int) < 32768 then (lo.toNat + 256 * hi.toNat : Int)
      else (lo.toNat + 256 * hi.toNat : Int) - 65536 := by
  rw [sext, BitVec.toInt_eq_toNat_cond, toNat_le16]
  split <;> split <;> omega

/-- A humidity coefficient of 12 bits: a byte above four bits of the byte they share. -/
theorem toNat_coefficient12 {hi nibble : Byte} (h : nibble.toNat < 16) :
    (hi.setWidth 12 <<< 4 ||| nibble.setWidth 12).toNat = hi.toNat * 16 + nibble.toNat := by
  have hhi : (hi.setWidth 12).toNat = hi.toNat := BitVec.toNat_setWidth_of_le (by decide)
  have hnibble : (nibble.setWidth 12).toNat = nibble.toNat := BitVec.toNat_setWidth_of_le (by decide)
  rw [toNat_shiftLeft_or (by omega) (by omega), hhi, hnibble]
  rfl

theorem toNat_low_nibble (b : Byte) : (b &&& 0x0F).toNat = b.toNat % 16 :=
  Nat.and_two_pow_sub_one_eq_mod _ 4

theorem toNat_high_nibble (b : Byte) : (b >>> 4).toNat = b.toNat / 16 :=
  Nat.shiftRight_eq_div_pow _ 4

theorem toNat_parH1 (img : Vector Byte 42) :
    (packCoefficients img).parH1.toNat = img[25].toNat * 16 + img[24].toNat % 16 := by
  have hnibble := toNat_low_nibble img[24]
  rw [packCoefficients, toNat_coefficient12 (by omega), hnibble]

theorem toNat_parH2 (img : Vector Byte 42) :
    (packCoefficients img).parH2.toNat = img[23].toNat * 16 + img[24].toNat / 16 := by
  have hnibble := toNat_high_nibble img[24]
  rw [packCoefficients, toNat_coefficient12 (by omega), hnibble]

/-- Settles O47: each coefficient is a byte, two bytes little-endian, or a byte and a nibble. -/
theorem packingFollowsTheImageLayout : Obligations.PackingFollowsTheImageLayout := by
  intro img
  exact ⟨zext_le16 _ _, sext_le16 _ _, sext_byte _, zext_le16 _ _, sext_le16 _ _, sext_byte _, sext_le16 _ _,
    sext_le16 _ _, sext_byte _, sext_byte _, sext_le16 _ _, sext_le16 _ _, rfl, congrArg Nat.cast (toNat_parH1 img),
    congrArg Nat.cast (toNat_parH2 img), sext_byte _, sext_byte _, sext_byte _, rfl, sext_byte _⟩

/-! ### Pressure (R293 to R296) -/

section Pressure

variable {c : Coeffs} {adcP tFine : Int}

theorem presDivisor_of_parP1_zero (h : c.parP1 = 0) : presDivisor c tFine = 0 := by
  have hzero : zext c.parP1 = 0 := by rw [h]; rfl
  rw [presDivisor, hzero, mul_zero]
  rfl

theorem compPres_of_divisor_zero (h : presDivisor c tFine = 0) : compPres c adcP tFine = none := by
  simp [compPres, h]

/-- With a divisor there is a pressure, and its branch is that of the numerator. -/
theorem compPres_of_divisor_ne_zero (h : presDivisor c tFine ≠ 0) :
    compPres c adcP tFine =
      some (u32 (presFinal c (presQuotient (presNumerator c adcP tFine) (presDivisor c tFine))),
        presBranch (presNumerator c adcP tFine)) := by
  simp [compPres, h]

theorem compPres_eq_none_iff : compPres c adcP tFine = none ↔ presDivisor c tFine = 0 := by
  refine ⟨fun hnone => ?_, compPres_of_divisor_zero⟩
  by_contra hne
  rw [compPres_of_divisor_ne_zero hne] at hnone
  cases hnone

/-- What a pressure and its branch are, where there is one. -/
theorem of_compPres_eq_some {pres : BitVec 32} {pbr : Bool} (h : compPres c adcP tFine = some (pres, pbr)) :
    pres = u32 (presFinal c (presQuotient (presNumerator c adcP tFine) (presDivisor c tFine))) ∧
      pbr = presBranch (presNumerator c adcP tFine) := by
  have hne : presDivisor c tFine ≠ 0 := fun hzero => by
    rw [compPres_of_divisor_zero hzero] at h
    cases h
  rw [compPres_of_divisor_ne_zero hne] at h
  cases h
  exact ⟨rfl, rfl⟩

end Pressure

theorem presBranch_of_ge {pc : Int} (h : 2 ^ 30 ≤ pc) : presBranch pc = true := decide_eq_true h

theorem presBranch_of_lt {pc : Int} (h : pc < 2 ^ 30) : presBranch pc = false := decide_eq_false (Int.not_le.mpr h)

theorem presQuotient_of_ge {pc : Int} (h : 2 ^ 30 ≤ pc) (v1 : Int) : presQuotient pc v1 = shl32 (tdiv pc v1) 1 := by
  simp [presQuotient, presBranch_of_ge h]

theorem presQuotient_of_lt {pc : Int} (h : pc < 2 ^ 30) (v1 : Int) : presQuotient pc v1 = tdiv (shl32 pc 1) v1 := by
  simp [presQuotient, presBranch_of_lt h]

/-- Doubling a number of the signed 31-bit range does not overflow. -/
theorem shl32_one_of_range {x : Int} (hlo : -(2 ^ 30) ≤ x) (hhi : x < 2 ^ 30) : shl32 x 1 = 2 * x := by
  rw [shl32, pow_one, mul_comm]
  exact wrap_of_range (n := 31) (by omega) (by omega)

/-- Settles O51: the branch test decides which side the quotient takes, and below 2^30 the double fits 32 bits. -/
theorem pressureBranchAvoidsOverflow : Obligations.PressureBranchAvoidsOverflow := by
  intro c adcP tFine pres pbr h
  obtain ⟨rfl, rfl⟩ := of_compPres_eq_some h
  refine ⟨fun hge => ⟨presBranch_of_ge hge, ?_⟩, fun hlt => ⟨presBranch_of_lt hlt, ?_⟩, shl32_one_of_range⟩
  · rw [presQuotient_of_ge hge]
  · rw [presQuotient_of_lt hlt]

/-! ### Humidity (R298) -/

theorem clampHum_of_neg {h : Int} (hneg : h < 0) : clampHum h = 0 := by unfold clampHum; omega

theorem clampHum_of_gt {h : Int} (hgt : 100000 < h) : clampHum h = 100000 := by unfold clampHum; omega

theorem clampHum_of_mem {h : Int} (hlo : 0 ≤ h) (hhi : h ≤ 100000) : clampHum h = h := by unfold clampHum; omega

/-- Settles O52: the humidity is the clamp of the raw one. -/
theorem humidityIsAlwaysClamped : Obligations.HumidityIsAlwaysClamped := by
  intro c adcH tFine
  obtain ⟨hlo, hhi⟩ := clampHum_range (compHumRaw c adcH tFine)
  exact ⟨hlo, hhi, clampHum_of_neg, clampHum_of_gt, clampHum_of_mem⟩

end Sys2Proof.Machine
end

section
/-! PROOFS: CMP.READ as a run of events (42_compensation.md R280 to R307): the acceptance, the seven answers that set the
sensor up, the status polls with their delays, and the two ends: the burst, and the poll limit. -/

namespace Sys2Proof.Machine

open Sys2Proof

/-! ### Acceptance (R280, R281) -/

/-- Settles O10: the acceptance of an idle SFE, then the start of CMP.READ. -/
theorem cmpReadIsAccepted : Obligations.CmpReadIsAccepted := by
  intro s hidle
  have hexec : exec .cmpRead s = .next (accept opcCmpRead cmpStart s) := rfl
  rw [accept_of_idle hidle] at hexec
  exact hexec

section Measurement

variable {p : Params} {s u : State} {c : Coeffs} {n : Nat} {ph : Phase}

/-- The CMD write of a CMP.READ to an idle SFE issues the open (R280). -/
theorem cmpRead_write_of_idle (p : Params) (hidle : s.status.busy = false) :
    handleEvent p (WR .cmd 0x00000003) s = .next (issueBus (.openDev Config.cmpSlaveAddr) .cmpOpen { s with
      reply := .done
      status := { s.status with lastOp := 0x03, done := false, result := .ok, busy := true }
      seq := { s.seq with active := .cmp }
      cmp := { s.cmp with cfg := s.cmpCfg, polls := 0, pbr := false } }) := by
  have hdecode : decode 0x00000003 = .command .cmpRead := decodeOfEncode .cmpRead rfl
  have haccept : handleEvent p (WR .cmd 0x00000003) s = exec .cmpRead { s with reply := .done } := by
    rw [handleEvent_WR]
    simp only [writeReg, writeCmd, hdecode]
  exact haccept.trans (cmpReadIsAccepted { s with reply := .done } hidle)

/-! ### A measurement under way -/

/-- `u` is the CMP.READ that `s` accepted, with the bus port open, the coefficients `c` packed and `n` status reads issued. -/
structure Measuring (s : State) (c : Coeffs) (n : Nat) (u : State) : Prop where
  active : u.seq.active = .cmp
  busOpen : u.ports.busOpen = true
  serOpen : u.ports.serOpen = s.ports.serOpen
  status : u.status = { s.status with lastOp := 0x03, done := false, result := .ok, busy := true }
  coef : u.cmp.coef = c
  polls : u.cmp.polls = BitVec.ofNat 4 n
  pbr : u.cmp.pbr = false
  owRegs : u.owRegs = s.owRegs
  fsValue : u.fsValue = s.fsValue
  lineElapsed : u.lineElapsed = s.lineElapsed

/-- The measurement stands at the control point `ph`, with that control point's request outstanding. -/
structure MeasuringAt (p : Params) (s : State) (c : Coeffs) (n : Nat) (ph : Phase) (u : State) : Prop
    extends Measuring s c n u where
  phase : u.seq.phase = ph
  pending : u.ports.pending = ph.request p u.cmp.cfg

/-- While the polls keep to the limit of R7, the four bits of `polls` hold their number. -/
theorem Measuring.toNat_polls (h : Measuring s c n u) (hn : n ≤ 15) : u.cmp.polls.toNat = n := by
  rw [h.polls, BitVec.toNat_ofNat]
  omega

theorem Measuring.issueBus (h : Measuring s c n u) {r : BusReq} (hr : ph.request p u.cmp.cfg = .bus r) :
    MeasuringAt p s c n ph (issueBus r ph u) :=
  { h with phase := rfl, pending := hr.symm }

theorem Measuring.cmpPoll (h : Measuring s c n u) : MeasuringAt p s c (n + 1) .cmpStatus (cmpPoll p u) :=
  { h with
    polls := by rw [BitVec.ofNat_add, ← h.polls]; rfl
    phase := rfl
    pending := rfl }

theorem Measuring.beginDelay (h : Measuring s c n u) (hpending : u.ports.pending = .none) :
    MeasuringAt p s c n .cmpDelay (gotoAt .cmpDelay 0 u) :=
  { h with phase := rfl, pending := hpending }

/-! ### The seven answers of the set-up (R282, R283, R287) -/

/-- The state once its bus request is answered: none is outstanding, and the port is open or not (R75). -/
def answered (busOpen : Bool) (s : State) : State :=
  { s with ports := { s.ports with pending := .none, busOpen := busOpen } }

/-- CMP.READ goes on from a good answer, with the request no longer outstanding (R118). -/
theorem handleEvent_good_answer (ha : u.seq.active = .cmp) {r : BusReq} (hr : u.ports.pending = .bus r)
    {bytes : List Byte} (hcount : bytes.length = r.count) :
    handleEvent p (.busDone true bytes) u =
      .next (cmpAnswer p true bytes (answered (busOpenAfter r true u.ports.busOpen) u)) := by
  have hgood : busGood r true bytes = true := by simp [busGood, hcount]
  rw [handleEvent_busDone hr, busDone_of_cmp ha, hgood]
  rfl

theorem handleEvent_issueBus_good (ha : s.seq.active = .cmp) {r : BusReq} {bytes : List Byte}
    (hcount : bytes.length = r.count) :
    handleEvent p (.busDone true bytes) (issueBus r ph s) =
      .next (cmpAnswer p true bytes (answered (busOpenAfter r true s.ports.busOpen) (issueBus r ph s))) :=
  handleEvent_good_answer (u := issueBus r ph s) ha rfl hcount

variable {cal1 cal2 cal3 : List Byte}

theorem open_answered (ha : s.seq.active = .cmp) (addr : BitVec 7) :
    handleEvent p (.busDone true []) (issueBus (.openDev addr) .cmpOpen s) =
      .next (issueBus (.readN p.cmpRegCal1 23) .cmpCal1 { s with ports := { s.ports with busOpen := true } }) :=
  handleEvent_issueBus_good ha rfl

/-- The three calibration reads store their ranges; then the coefficients are packed (R283, R285). -/
theorem run_calibration (ha : s.seq.active = .cmp) (h1 : cal1.length = 23) (h2 : cal2.length = 14)
    (h3 : cal3.length = 5) :
    runEvents p [.busDone true cal1, .busDone true cal2, .busDone true cal3]
        (issueBus (.readN p.cmpRegCal1 23) .cmpCal1 s) =
      .next (issueBus (.write2 p.cmpRegConfig (configByte s.cmp.cfg)) .cmpConfig
        (cmpPack (cmpStoreCal 37 cal3 (cmpStoreCal 23 cal2 (cmpStoreCal 0 cal1 s))))) := by
  have hcal1 (a : State) (ha : a.seq.active = .cmp) :
      handleEvent p (.busDone true cal1) (issueBus (.readN p.cmpRegCal1 23) .cmpCal1 a) =
        .next (issueBus (.readN p.cmpRegCal2 14) .cmpCal2 (cmpStoreCal 0 cal1 a)) :=
    handleEvent_issueBus_good ha h1
  have hcal2 (a : State) (ha : a.seq.active = .cmp) :
      handleEvent p (.busDone true cal2) (issueBus (.readN p.cmpRegCal2 14) .cmpCal2 a) =
        .next (issueBus (.readN p.cmpRegCal3 5) .cmpCal3 (cmpStoreCal 23 cal2 a)) :=
    handleEvent_issueBus_good ha h2
  have hcal3 (a : State) (ha : a.seq.active = .cmp) :
      handleEvent p (.busDone true cal3) (issueBus (.readN p.cmpRegCal3 5) .cmpCal3 a) =
        .next (issueBus (.write2 p.cmpRegConfig (configByte a.cmp.cfg)) .cmpConfig (cmpPack (cmpStoreCal 37 cal3 a))) :=
    handleEvent_issueBus_good ha h3
  rw [runEvents_cons (hcal1 s ha), runEvents_cons (hcal2 (cmpStoreCal 0 cal1 s) ha)]
  exact runEvents_cons (hcal3 (cmpStoreCal 23 cal2 (cmpStoreCal 0 cal1 s)) ha)

/-- The three control writes are followed by the first status read (R287, R288). -/
theorem run_controls (ha : s.seq.active = .cmp) :
    runEvents p [.busDone true [], .busDone true [], .busDone true []]
        (issueBus (.write2 p.cmpRegConfig (configByte s.cmp.cfg)) .cmpConfig s) = .next (cmpPoll p s) := by
  have hconfig : handleEvent p (.busDone true [])
      (issueBus (.write2 p.cmpRegConfig (configByte s.cmp.cfg)) .cmpConfig s) =
        .next (issueBus (.write2 p.cmpRegCtrlHum (ctrlHumByte s.cmp.cfg)) .cmpCtrlHum s) :=
    handleEvent_issueBus_good ha rfl
  have hctrlHum : handleEvent p (.busDone true [])
      (issueBus (.write2 p.cmpRegCtrlHum (ctrlHumByte s.cmp.cfg)) .cmpCtrlHum s) =
        .next (issueBus (.write2 p.cmpRegCtrlMeas (ctrlMeasByte s.cmp.cfg)) .cmpCtrlMeas s) :=
    handleEvent_issueBus_good ha rfl
  have hctrlMeas : handleEvent p (.busDone true [])
      (issueBus (.write2 p.cmpRegCtrlMeas (ctrlMeasByte s.cmp.cfg)) .cmpCtrlMeas s) = .next (cmpPoll p s) :=
    handleEvent_issueBus_good ha rfl
  rw [runEvents_cons hconfig, runEvents_cons hctrlHum]
  exact runEvents_cons hctrlMeas

/-- The set-up stores the three ranges, packs the coefficients and leaves the first status read outstanding. -/
theorem runEvents_setupAnswers (ha : s.seq.active = .cmp) (addr : BitVec 7) (h1 : cal1.length = 23)
    (h2 : cal2.length = 14) (h3 : cal3.length = 5) :
    runEvents p (setupAnswers cal1 cal2 cal3) (issueBus (.openDev addr) .cmpOpen s) = .next (cmpPoll p
      (cmpPack (cmpStoreCal 37 cal3 (cmpStoreCal 23 cal2 (cmpStoreCal 0 cal1
        { s with ports := { s.ports with busOpen := true } }))))) :=
  (runEvents_cons (open_answered ha addr)).trans
    ((runEvents_append (run_calibration (s := { s with ports := { s.ports with busOpen := true } }) ha h1 h2 h3)).trans
      (run_controls ha))

/-- The three ranges fill the image, so nothing of what it held before is left (R283). -/
theorem storeBytes_eq_imageOf (img : Vector Byte 42) (h1 : cal1.length = 23) (h2 : cal2.length = 14)
    (h3 : cal3.length = 5) :
    storeBytes (storeBytes (storeBytes img 0 cal1) 23 cal2) 37 cal3 = imageOf cal1 cal2 cal3 := by
  apply Vector.ext
  intro i hi
  simp only [imageOf, storeBytes_getElem, h1, h2, h3]
  split
  · rfl
  · split
    · rfl
    · have hcal1 : 0 ≤ i ∧ i - 0 < 23 := by omega
      rw [dif_pos hcal1, dif_pos hcal1]

/-- From the CMD write to the first status read. -/
theorem run_setup_of_idle (p : Params) (hidle : s.status.busy = false) (h1 : cal1.length = 23)
    (h2 : cal2.length = 14) (h3 : cal3.length = 5) :
    ∃ u, runEvents p (WR .cmd 0x00000003 :: setupAnswers cal1 cal2 cal3) s = .next u ∧
      MeasuringAt p s (packCoefficients (imageOf cal1 cal2 cal3)) 1 .cmpStatus u := by
  refine ⟨_, (runEvents_cons (cmpRead_write_of_idle p hidle)).trans (runEvents_setupAnswers rfl _ h1 h2 h3), ?_⟩
  have hcoef := congrArg packCoefficients (storeBytes_eq_imageOf s.cmp.img h1 h2 h3)
  exact Measuring.cmpPoll (n := 0) ⟨rfl, rfl, rfl, rfl, hcoef, rfl, rfl, rfl, rfl, rfl⟩

/-! ### The status polls (R288) -/

section Status

variable {st : Byte}

theorem cmpStatus_of_ready (hready : st.getLsbD 7 = true) :
    cmpStatus p st s = issueBus (.readN p.cmpRegData 8) .cmpBurst s := by
  rw [cmpStatus, if_pos hready]

theorem cmpStatus_of_limit (hready : st.getLsbD 7 = false) (hlimit : p.cmpPollMax ≤ s.cmp.polls.toNat) :
    cmpStatus p st s = cmpClose .dataNotReady s := by
  rw [cmpStatus, hready, if_neg Bool.false_ne_true, if_pos hlimit]

theorem cmpStatus_of_more (hready : st.getLsbD 7 = false) (hmore : s.cmp.polls.toNat < p.cmpPollMax) :
    cmpStatus p st s = if p.cmpPollDelay = 0 then cmpPoll p s else gotoAt .cmpDelay 0 s := by
  rw [cmpStatus, hready, if_neg Bool.false_ne_true, if_neg (Nat.not_le.mpr hmore)]

theorem cmpAnswer_at_cmpStatus (hph : s.seq.phase = .cmpStatus) (bytes : List Byte) :
    cmpAnswer p true bytes s = cmpStatus p (bytes.headD 0) s := by
  simp [cmpAnswer, hph]

/-- A status read's answer is judged by `cmpStatus`, with nothing outstanding and the port still open. -/
theorem MeasuringAt.status_answered (h : MeasuringAt p s c n .cmpStatus u) (st : Byte) :
    ∃ v, handleEvent p (.busDone true [st]) u = .next (cmpStatus p st v) ∧ Measuring s c n v ∧
      v.ports.pending = .none := by
  have hanswer := handleEvent_good_answer (p := p) (bytes := [st]) h.active h.pending rfl
  rw [cmpAnswer_at_cmpStatus (s := answered _ u) h.phase] at hanswer
  exact ⟨_, hanswer, { h with }, rfl⟩

/-- A ready status is followed by the burst read. -/
theorem MeasuringAt.ready_answered (h : MeasuringAt p s c n .cmpStatus u) (hready : st.getLsbD 7 = true) :
    ∃ v, handleEvent p (.busDone true [st]) u = .next v ∧ MeasuringAt p s c n .cmpBurst v := by
  obtain ⟨v, hanswer, hv, -⟩ := h.status_answered st
  rw [cmpStatus_of_ready hready] at hanswer
  exact ⟨_, hanswer, hv.issueBus rfl⟩

end Status

theorem MeasuringAt.tick_delay (h : MeasuringAt p s c n .cmpDelay u) (e : Bool) :
    tick p e u = delayTick p.cmpPollDelay (Machine.cmpPoll p) (latchSample (lineSample e u) u) := by
  rw [tick_of_cmp h.active]
  simp only [cmpTick, latchSample_seq, h.phase]

/-- A Tick before the delay's last one only counts. -/
theorem MeasuringAt.tick_counts (h : MeasuringAt p s c n .cmpDelay u) (e : Bool) (hk : u.seq.k + 1 < p.cmpPollDelay) :
    MeasuringAt p s c n .cmpDelay (tick p e u) ∧ (tick p e u).seq.k = u.seq.k + 1 := by
  rw [h.tick_delay]
  obtain ⟨hends, -⟩ | ⟨-, hcounts⟩ :=
    delayTick_cases p.cmpPollDelay (Machine.cmpPoll p) (latchSample (lineSample e u) u)
  · rw [latchSample_seq] at hends
    omega
  · rw [hcounts]
    exact ⟨{ h with }, rfl⟩

/-- The delay's last Tick issues the next status read. -/
theorem MeasuringAt.tick_ends (h : MeasuringAt p s c n .cmpDelay u) (e : Bool) (hk : u.seq.k + 1 = p.cmpPollDelay) :
    MeasuringAt p s c (n + 1) .cmpStatus (tick p e u) := by
  rw [h.tick_delay]
  obtain ⟨-, hends⟩ | ⟨hcounts, -⟩ :=
    delayTick_cases p.cmpPollDelay (Machine.cmpPoll p) (latchSample (lineSample e u) u)
  · rw [hends]
    exact Measuring.cmpPoll { h with }
  · rw [latchSample_seq] at hcounts
    omega

/-- The poll delay over exactly its remaining ticks ends in the next status read. -/
theorem MeasuringAt.run_delay (h : MeasuringAt p s c n .cmpDelay u) (e : Bool) {m : Nat}
    (hm : u.seq.k + (m + 1) = p.cmpPollDelay) :
    ∃ v, runEvents p (List.replicate (m + 1) (.tick e)) u = .next v ∧ MeasuringAt p s c (n + 1) .cmpStatus v := by
  induction m generalizing u with
  | zero => exact ⟨_, runEvents_cons (handleEvent_tick p e u), h.tick_ends e hm⟩
  | succ m ih =>
    obtain ⟨hnext, hk⟩ := h.tick_counts e (by omega)
    obtain ⟨v, hrun, hv⟩ := ih hnext (by omega)
    exact ⟨v, (runEvents_cons (handleEvent_tick p e u)).trans hrun, hv⟩

/-- A status read that is not ready and not the last one, with its delay, leads to the next one. -/
theorem MeasuringAt.run_notReady (h : MeasuringAt p s c n .cmpStatus u) {b : Byte} (hb : b.getLsbD 7 = false)
    (hlt : n < p.cmpPollMax) (hmax : p.cmpPollMax ≤ 15) :
    ∃ v, runEvents p (.busDone true [b] :: List.replicate p.cmpPollDelay (.tick true)) u = .next v ∧
      MeasuringAt p s c (n + 1) .cmpStatus v := by
  obtain ⟨v, hanswer, hv, hpending⟩ := h.status_answered b
  rw [cmpStatus_of_more hb (by rw [hv.toNat_polls (by omega)]; exact hlt)] at hanswer
  rw [runEvents_cons hanswer]
  obtain hzero | ⟨m, hm⟩ : p.cmpPollDelay = 0 ∨ ∃ m, p.cmpPollDelay = m + 1 := by
    cases p.cmpPollDelay with
    | zero => exact .inl rfl
    | succ m => exact .inr ⟨m, rfl⟩
  · rw [if_pos hzero, hzero]
    exact ⟨_, rfl, hv.cmpPoll⟩
  · rw [if_neg (by omega), hm]
    exact (hv.beginDelay hpending).run_delay true ((Nat.zero_add (m + 1)).trans hm.symm)

/-- Not-ready answers below the limit, one after the other. -/
theorem MeasuringAt.run_notReadyPolls (h : MeasuringAt p s c n .cmpStatus u) {notReady : List Byte}
    (hbytes : ∀ b ∈ notReady, b.getLsbD 7 = false) (hlimit : n + notReady.length ≤ p.cmpPollMax)
    (hmax : p.cmpPollMax ≤ 15) :
    ∃ v, runEvents p (notReadyPolls p notReady) u = .next v ∧
      MeasuringAt p s c (n + notReady.length) .cmpStatus v := by
  induction notReady generalizing u n with
  | nil => exact ⟨u, rfl, h⟩
  | cons b rest ih =>
    obtain ⟨hb, hrest⟩ := List.forall_mem_cons.mp hbytes
    rw [List.length_cons] at hlimit ⊢
    obtain ⟨v, hpoll, hv⟩ := h.run_notReady hb (by omega) hmax
    obtain ⟨w, hpolls, hw⟩ := ih hv hrest (by omega)
    refine ⟨w, (runEvents_append hpoll).trans hpolls, ?_⟩
    rwa [Nat.add_assoc, Nat.add_comm 1] at hw

/-- From the CMD write to the answer of the last status read, whatever happens from there on. -/
theorem run_polls_of_idle (hwf : p.wf = true) (hidle : s.status.busy = false) (h1 : cal1.length = 23)
    (h2 : cal2.length = 14) (h3 : cal3.length = 5) {notReady : List Byte} (hlimit : notReady.length < p.cmpPollMax)
    (hbytes : ∀ b ∈ notReady, b.getLsbD 7 = false) :
    ∃ u, MeasuringAt p s (packCoefficients (imageOf cal1 cal2 cal3)) (notReady.length + 1) .cmpStatus u ∧
      ∀ rest, runEvents p (WR .cmd 0x00000003 :: (setupAnswers cal1 cal2 cal3 ++ notReadyPolls p notReady ++ rest)) s =
        runEvents p rest u := by
  have hmax : p.cmpPollMax ≤ 15 := by rw [Params.wf_iff] at hwf; omega
  obtain ⟨v, hsetup, hv⟩ := run_setup_of_idle p hidle h1 h2 h3
  obtain ⟨u, hpolls, hu⟩ := hv.run_notReadyPolls hbytes (by omega) hmax
  rw [Nat.add_comm] at hu
  refine ⟨u, hu, fun rest => ?_⟩
  rw [List.append_assoc, ← List.cons_append, runEvents_append hsetup, runEvents_append hpolls]

/-- From the CMD write to the burst read, over a last status read that is ready. -/
theorem run_to_burst_of_idle (hwf : p.wf = true) (hidle : s.status.busy = false) (h1 : cal1.length = 23)
    (h2 : cal2.length = 14) (h3 : cal3.length = 5) {notReady : List Byte} (hlimit : notReady.length < p.cmpPollMax)
    (hbytes : ∀ b ∈ notReady, b.getLsbD 7 = false) {st : Byte} (hready : st.getLsbD 7 = true) :
    ∃ u, MeasuringAt p s (packCoefficients (imageOf cal1 cal2 cal3)) (notReady.length + 1) .cmpBurst u ∧
      ∀ rest, runEvents p (WR .cmd 0x00000003 ::
          (setupAnswers cal1 cal2 cal3 ++ notReadyPolls p notReady ++ (.busDone true [st] :: rest))) s =
        runEvents p rest u := by
  obtain ⟨v, hv, hrun⟩ := run_polls_of_idle hwf hidle h1 h2 h3 hlimit hbytes
  obtain ⟨u, hanswer, hu⟩ := hv.ready_answered hready
  exact ⟨u, hu, fun rest => (hrun _).trans (runEvents_cons hanswer)⟩

/-! ### The end of the command (R299 to R301, R307) -/

/-- CMP_STAT from the branch and the number of polls (R307). -/
def statWord (pbr : Bool) (polls : BitVec 4) : BitVec 9 := BitVec.ofBool pbr ++ 0#4 ++ polls

theorem cmpStatWord_eq (s : State) : cmpStatWord s = statWord s.cmp.pbr s.cmp.polls := rfl

theorem toNat_statWord (pbr : Bool) (polls : BitVec 4) : (statWord pbr polls).toNat = pbr.toNat * 256 + polls.toNat := by
  rw [statWord, toNat_append_eq_add, toNat_append_eq_add, BitVec.toNat_ofBool, BitVec.toNat_ofNat]
  omega

theorem statWord_false (polls : BitVec 4) : statWord false polls = polls.setWidth 9 := by
  apply BitVec.eq_of_toNat_eq
  rw [toNat_statWord, BitVec.toNat_setWidth_of_le (by decide), Bool.toNat_false]
  omega

/-- The registers after the failure writes (R300). -/
def failedRegs (stat : BitVec 9) : CmpRegs :=
  { temp := 0, pres := 0, hum := 0, tfine := 0, adcT := 0, adcP := 0, adcH := 0, stat := stat }

/-- The fine temperature of a burst (R290). -/
def burstTFine (c : Coeffs) (b : Vector Byte 8) : Int := compTFine c (zext (burstAdcT b))

/-- The pressure of a burst and its branch (R293 to R296), where there is a divisor. -/
def burstPres (c : Coeffs) (b : Vector Byte 8) : Option (BitVec 32 × Bool) :=
  compPres c (zext (burstAdcP b)) (burstTFine c b)

theorem burstPres_eq (c : Coeffs) (b : Vector Byte 8) :
    burstPres c b = compPres c (burstAdcP b).toNat (compTFine c (burstAdcT b).toNat) := rfl

/-- The registers after the success writes for a burst with the pressure `pres` (R299). -/
def measuredRegs (c : Coeffs) (b : Vector Byte 8) (pres : BitVec 32) (stat : BitVec 9) : CmpRegs where
  temp := u32 (compTemp (burstTFine c b))
  pres := pres
  hum := u32 (compHum c (zext (burstAdcH b)) (burstTFine c b))
  tfine := u32 (burstTFine c b)
  adcT := burstAdcT b
  adcP := burstAdcP b
  adcH := burstAdcH b
  stat := stat

/-- `t` is `u` after its CMP.READ has ended with `code` and written `regs`: the bus port is closed, and the other units'
results are as they were. -/
structure CmpEnded (u : State) (code : ResultCode) (regs : CmpRegs) (t : State) : Prop where
  status : t.status = { u.status with result := code, done := true, busy := false }
  cmpRegs : t.cmpRegs = regs
  ports : t.ports = { u.ports with busOpen := false, pending := .none }
  owRegs : t.owRegs = u.owRegs
  fsValue : t.fsValue = u.fsValue
  lineElapsed : t.lineElapsed = u.lineElapsed

/-- The end of a measurement, seen from the state that accepted it. -/
theorem CmpEnded.of_measuring {code : ResultCode} {regs : CmpRegs} {t : State} (ht : CmpEnded u code regs t)
    (hu : Measuring s c n u) : CmpEnded { s with status := { s.status with lastOp := 0x03 } } code regs t where
  status := by rw [ht.status, hu.status]
  cmpRegs := ht.cmpRegs
  ports := ht.ports.trans (congrArg (Ports.mk false · .none) hu.serOpen)
  owRegs := ht.owRegs.trans hu.owRegs
  fsValue := ht.fsValue.trans hu.fsValue
  lineElapsed := ht.lineElapsed.trans hu.lineElapsed

variable {ok : Bool} {extra : List Byte}

/-- The answer to a close, whatever it says, ends the command with the close's code (R301). -/
theorem run_cmpClose (ha : u.seq.active = .cmp) (code : ResultCode) (ok : Bool) (extra : List Byte) :
    runEvents p [.busDone ok extra] (cmpClose code u) =
      .next (cmpEnd code { cmpClose code u with ports := { u.ports with pending := .none, busOpen := false } }) :=
  runEvents_cons ((handleEvent_busDone rfl ok extra).trans (congrArg Host.Outcome.next (busDone_cmpClose ha code ok extra)))

theorem run_cmpClose_of_failure (ha : u.seq.active = .cmp) {code : ResultCode} (hcode : code ≠ .ok) :
    ∃ t, runEvents p [.busDone ok extra] (cmpClose code u) = .next t ∧
      CmpEnded u code (failedRegs (statWord u.cmp.pbr u.cmp.polls)) t := by
  refine ⟨_, run_cmpClose ha code ok extra, ?_⟩
  cases code with
  | ok => exact absurd rfl hcode
  | _ => exact ⟨rfl, rfl, rfl, rfl, rfl, rfl⟩

/-! ### The burst (R289 to R299) -/

/-- The engine once it has computed from the burst `b`, with the branch `pbr` noted. -/
def CmpEngine.sampled (b : Vector Byte 8) (pbr : Bool) (e : CmpEngine) : CmpEngine :=
  { e with
    burst := b
    adcT := burstAdcT b
    adcP := burstAdcP b
    adcH := burstAdcH b
    tFine := u32 (burstTFine e.coef b)
    pbr := pbr }

/-- The state with the engine so. -/
def computed (b : Vector Byte 8) (pbr : Bool) (s : State) : State := { s with cmp := s.cmp.sampled b pbr }

variable {burst : List Byte} {pres : BitVec 32} {pbr : Bool}

theorem cmpCompute_of_pres (hlength : burst.length = 8)
    (hpres : burstPres s.cmp.coef (burstOf burst) = some (pres, pbr)) :
    cmpCompute burst s = cmpClose .ok (computed (burstOf burst) pbr s) := by
  have hburst : storeBytes s.cmp.burst 0 burst = burstOf burst := storeBytes_whole burst _ _ hlength
  rw [burstPres, burstTFine] at hpres
  dsimp only [cmpCompute]
  rw [hburst, hpres]
  rfl

theorem cmpCompute_of_no_pres (hlength : burst.length = 8) (hpres : burstPres s.cmp.coef (burstOf burst) = none) :
    cmpCompute burst s = cmpClose .arithFault (computed (burstOf burst) false s) := by
  have hburst : storeBytes s.cmp.burst 0 burst = burstOf burst := storeBytes_whole burst _ _ hlength
  rw [burstPres, burstTFine] at hpres
  dsimp only [cmpCompute]
  rw [hburst, hpres]
  rfl

/-- What is computed from the burst is what the close's answer writes. -/
theorem cmpSucceed_of_sampled {e : CmpEngine} {b : Vector Byte 8} (hcmp : s.cmp = e.sampled b pbr)
    (hpres : burstPres e.coef b = some (pres, pbr)) :
    (cmpSucceed s).cmpRegs = measuredRegs e.coef b pres (statWord pbr e.polls) := by
  have htf : sext (u32 (burstTFine e.coef b)) = burstTFine e.coef b := sext_u32_compTFine _ _
  rw [burstPres] at hpres
  simp [cmpSucceed, htf, cmpStatWord_eq, hcmp, CmpEngine.sampled, hpres, measuredRegs]

theorem cmpAnswer_at_cmpBurst (hph : s.seq.phase = .cmpBurst) (bytes : List Byte) :
    cmpAnswer p true bytes s = cmpCompute bytes s := by
  simp [cmpAnswer, hph]

/-- CMP.READ awaits the burst (R289). -/
structure AwaitsBurst (p : Params) (u : State) : Prop where
  active : u.seq.active = .cmp
  phase : u.seq.phase = .cmpBurst
  pending : u.ports.pending = .bus (.readN p.cmpRegData 8)

theorem MeasuringAt.awaitsBurst (h : MeasuringAt p s c n .cmpBurst u) : AwaitsBurst p u :=
  ⟨h.active, h.phase, h.pending⟩

theorem AwaitsBurst.burst_answered (h : AwaitsBurst p u) (hlength : burst.length = 8) :
    handleEvent p (.busDone true burst) u =
      .next (cmpCompute burst (answered u.ports.busOpen u)) := by
  rw [handleEvent_good_answer h.active h.pending hlength, cmpAnswer_at_cmpBurst (s := answered _ u) h.phase]
  rfl

/-- A burst with a pressure ends the command OK, with every register at its formula's value (R299). -/
theorem AwaitsBurst.run_of_pres (h : AwaitsBurst p u) (hlength : burst.length = 8)
    (hpres : burstPres u.cmp.coef (burstOf burst) = some (pres, pbr)) :
    ∃ t, runEvents p [.busDone true burst, .busDone ok extra] u = .next t ∧
      CmpEnded u .ok (measuredRegs u.cmp.coef (burstOf burst) pres (statWord pbr u.cmp.polls)) t := by
  have hanswer := h.burst_answered hlength
  rw [cmpCompute_of_pres (s := answered _ u) hlength hpres] at hanswer
  have hclose := run_cmpClose (p := p) (u := computed (burstOf burst) pbr (answered u.ports.busOpen u)) h.active .ok ok extra
  refine ⟨_, (runEvents_cons hanswer).trans hclose, rfl, ?_, rfl, rfl, rfl, rfl⟩
  exact cmpSucceed_of_sampled rfl hpres

/-- A burst whose pressure divisor is 0 ends the command ARITH_FAULT, with every result 0 (R295). -/
theorem AwaitsBurst.run_of_no_pres (h : AwaitsBurst p u) (hlength : burst.length = 8)
    (hpres : burstPres u.cmp.coef (burstOf burst) = none) :
    ∃ t, runEvents p [.busDone true burst, .busDone ok extra] u = .next t ∧
      CmpEnded u .arithFault (failedRegs (statWord false u.cmp.polls)) t := by
  have hanswer := h.burst_answered hlength
  rw [cmpCompute_of_no_pres (s := answered _ u) hlength hpres] at hanswer
  obtain ⟨t, hclose, ht⟩ := run_cmpClose_of_failure (p := p) (ok := ok) (extra := extra)
    (u := computed (burstOf burst) false (answered u.ports.busOpen u)) h.active (code := .arithFault) nofun
  exact ⟨t, (runEvents_cons hanswer).trans hclose, { ht with }⟩

/-- The coefficients and the burst fix the results and the code (R302). -/
theorem burst_fixes_results (c : Coeffs) (hlength : burst.length = 8) (ok : Bool) (extra : List Byte) :
    ∃ regs code, ∀ {u t : State}, AwaitsBurst p u → u.cmp.coef = c →
      runEvents p [.busDone true burst, .busDone ok extra] u = .next t →
      { t.cmpRegs with stat := 0 } = regs ∧ t.status.result = code := by
  cases hpres : burstPres c (burstOf burst) with
  | none =>
    refine ⟨failedRegs 0, .arithFault, fun hu hcoef hrun => ?_⟩
    obtain ⟨t, hends, ht⟩ := hu.run_of_no_pres (ok := ok) (extra := extra) hlength (hcoef ▸ hpres)
    cases hends.symm.trans hrun
    rw [ht.cmpRegs, ht.status]
    exact ⟨rfl, rfl⟩
  | some result =>
    refine ⟨measuredRegs c (burstOf burst) result.1 0, .ok, fun hu hcoef hrun => ?_⟩
    obtain ⟨t, hends, ht⟩ := hu.run_of_pres (ok := ok) (extra := extra) hlength (hcoef ▸ hpres)
    cases hends.symm.trans hrun
    rw [ht.cmpRegs, ht.status, hcoef]
    exact ⟨rfl, rfl⟩

end Measurement

/-- Settles O53: the set-up, the polls and the ready status lead to the burst, whose answer computes what the close's answer
writes. -/
theorem cmpReadComputesTheMeasurement : Obligations.CmpReadComputesTheMeasurement := by
  intro p s cal1 cal2 cal3 notReady burst st ok extra pres pbr hwf hidle h1 h2 h3 hlength hlimit hbytes hready c b tf hpres
  have hmax : p.cmpPollMax ≤ 15 := by rw [Params.wf_iff] at hwf; omega
  obtain ⟨v, hv, hrun⟩ := run_to_burst_of_idle hwf hidle h1 h2 h3 hlimit hbytes hready
  obtain ⟨t, hends, ht⟩ := hv.awaitsBurst.run_of_pres (ok := ok) (extra := extra) (pbr := pbr) (pres := pres) hlength
    (by rw [hv.coef, burstPres_eq]; exact hpres)
  have hend := ht.of_measuring hv.toMeasuring
  rw [hv.coef] at hend
  have hpolls : v.cmp.polls.toNat = notReady.length + 1 := hv.toNat_polls (by omega)
  have hstat : (regWord .cmpStat t).toNat = pbr.toNat * 256 + notReady.length + 1 := by
    rw [regWord, hend.cmpRegs, BitVec.toNat_setWidth_of_le (by decide), measuredRegs, toNat_statWord, hpolls, Nat.add_assoc]
  refine ⟨t, (hrun _).trans hends, hend.status, congrArg CmpRegs.temp hend.cmpRegs,
    congrArg CmpRegs.pres hend.cmpRegs, ?_, ?_, ?_, ?_, ?_, hstat, hend.ports, hend.owRegs, hend.fsValue,
    hend.lineElapsed⟩
  · rw [regWord, hend.cmpRegs]
    rfl
  · rw [regWord, hend.cmpRegs]
    exact sext_u32_compTFine _ _
  all_goals
    rw [regWord, hend.cmpRegs]
    rfl

/-- Settles O54: both runs reach the burst with the same coefficients, and from there the burst fixes the results. -/
theorem cmpResultsDependOnlyOnReceivedBytes : Obligations.CmpResultsDependOnlyOnReceivedBytes := by
  intro p s1 s2 t1 t2 cal1 cal2 cal3 n1 n2 burst st1 st2 hwf hidle1 hidle2 h1 h2 h3 hlength hlimit1 hlimit2 hbytes1
    hbytes2 hready1 hready2 hrun1 hrun2
  obtain ⟨v1, hv1, hburst1⟩ := run_to_burst_of_idle hwf hidle1 h1 h2 h3 hlimit1 hbytes1 hready1
  obtain ⟨v2, hv2, hburst2⟩ := run_to_burst_of_idle hwf hidle2 h1 h2 h3 hlimit2 hbytes2 hready2
  obtain ⟨regs, code, hfixed⟩ :=
    burst_fixes_results (p := p) (packCoefficients (imageOf cal1 cal2 cal3)) hlength true []
  obtain ⟨hregs1, hcode1⟩ := hfixed hv1.awaitsBurst hv1.coef ((hburst1 _).symm.trans hrun1)
  obtain ⟨hregs2, hcode2⟩ := hfixed hv2.awaitsBurst hv2.coef ((hburst2 _).symm.trans hrun2)
  exact ⟨hregs1.trans hregs2.symm, hcode1.trans hcode2.symm⟩

/-- Settles O55: `par_p1` is a factor of the divisor; there is a pressure just where there is a divisor; and a burst without
one ends the command. -/
theorem zeroDivisorEndsArithFault : Obligations.ZeroDivisorEndsArithFault := by
  refine ⟨fun _ _ => presDivisor_of_parP1_zero, fun _ _ _ => compPres_eq_none_iff.symm, ?_⟩
  intro p s burst extra ok hinv hphase hlength hzero
  have hawaits : AwaitsBurst p s :=
    ⟨by rw [hinv.phase_owner, hphase]; rfl, hphase, by rw [hinv.request, hphase]; rfl⟩
  obtain ⟨t, hrun, ht⟩ := hawaits.run_of_no_pres (ok := ok) (extra := extra) hlength
    (by rw [burstPres_eq]; exact compPres_of_divisor_zero hzero)
  rw [statWord_false] at ht
  exact ⟨t, hrun, ht.status, ht.cmpRegs, ht.ports⟩

/-- Settles O56: the last status read leaves the polls at the limit, so its answer issues the close at once. -/
theorem pollLimitEndsDataNotReady : Obligations.PollLimitEndsDataNotReady := by
  intro p s cal1 cal2 cal3 notReady st ok extra hwf hidle h1 h2 h3 hlimit hbytes hready
  have hmax : p.cmpPollMax ≤ 15 := by rw [Params.wf_iff] at hwf; omega
  obtain ⟨u, hu, hrun⟩ := run_polls_of_idle hwf hidle h1 h2 h3 (by omega) hbytes
  obtain ⟨v, hanswer, hv, -⟩ := hu.status_answered st
  have hpolls : v.cmp.polls.toNat = p.cmpPollMax := (hv.toNat_polls (by omega)).trans hlimit
  rw [cmpStatus_of_limit hready hpolls.ge] at hanswer
  obtain ⟨t, hends, ht⟩ := run_cmpClose_of_failure (p := p) (ok := ok) (extra := extra) hv.active
    (code := .dataNotReady) nofun
  have hend := ht.of_measuring hv
  have hstat : statWord v.cmp.pbr v.cmp.polls = BitVec.ofNat 9 p.cmpPollMax := by
    apply BitVec.eq_of_toNat_eq
    rw [hv.pbr, statWord_false, BitVec.toNat_setWidth_of_le (by decide), hpolls, BitVec.toNat_ofNat]
    exact (Nat.mod_eq_of_lt (by omega)).symm
  rw [hstat] at hend
  exact ⟨t, (hrun _).trans ((runEvents_cons hanswer).trans hends), hend.status, hend.cmpRegs, hend.ports⟩

end Sys2Proof.Machine
end

section
/-! PROOFS: the serial frames (43_serial.md R343 to R351): the two checks of a response in numbers, what they make of a
changed byte, and how the nine bytes alone fix the end of the command; and the acceptance of an FS.READ (R340). -/

namespace Sys2Proof.Machine

open Sys2Proof

/-! ### Acceptance (R340) -/

/-- Settles O9: the acceptance of an idle SFE, then the start of FS.READ. -/
theorem fsReadIsAccepted : Obligations.FsReadIsAccepted := by
  intro s hidle
  have hexec : exec .fsRead s = .next (accept opcFsRead fsStart s) := rfl
  rw [accept_of_idle hidle] at hexec
  exact hexec

/-! ### The checks (R343 to R346) -/

section Response

variable {rx : Vector Byte 9}

theorem framingOk_iff : framingOk rx = true ↔ rx[0] = 0xFF ∧ rx[1] = 0x86 := by
  simp [framingOk]

/-- The sum of bytes 1 to 8 (R345). -/
def responseSum (rx : Vector Byte 9) : Nat :=
  rx[1].toNat + rx[2].toNat + rx[3].toNat + rx[4].toNat + rx[5].toNat + rx[6].toNat + rx[7].toNat + rx[8].toNat

/-- The checksum complements its sum: the byte that equals it brings the sum to 0 (R344). -/
theorem complement_eq_iff (x y : Byte) : 0xFF - x + 1 = y ↔ (x.toNat + y.toNat) % 256 = 0 := by
  constructor
  · rintro rfl
    bv_omega
  · intro hsum
    bv_omega

theorem serialChecksumOk_iff : serialChecksumOk rx = true ↔ responseSum rx % 256 = 0 := by
  refine beq_iff_eq.trans ((complement_eq_iff _ _).trans ?_)
  simp only [responseSum, BitVec.toNat_add]
  omega

theorem toNat_serialValue (rx : Vector Byte 9) : (serialValue rx).toNat = rx[2].toNat * 256 + rx[3].toNat :=
  toNat_append_eq_add _ _

/-- The code nine bytes end the command with: the framing is checked first, then the checksum (R343, R345, R346). -/
def responseCode (rx : Vector Byte 9) : ResultCode :=
  if !framingOk rx then .framingMismatch else if !serialChecksumOk rx then .checksumMismatch else .ok

/-- FS_VALUE after nine bytes (R346, R347). -/
def responseValue (rx : Vector Byte 9) : BitVec 16 := if responseCode rx = .ok then serialValue rx else 0

theorem responseCode_eq (rx : Vector Byte 9) :
    responseCode rx =
      if ¬(rx[0] = 0xFF ∧ rx[1] = 0x86) then .framingMismatch
      else if responseSum rx % 256 ≠ 0 then .checksumMismatch
      else .ok := by
  simp only [responseCode, ← framingOk_iff, ne_eq, ← serialChecksumOk_iff, Bool.not_eq_true, Bool.not_eq_true']

theorem toNat_responseValue (rx : Vector Byte 9) :
    (responseValue rx).toNat = if responseCode rx = .ok then rx[2].toNat * 256 + rx[3].toNat else 0 := by
  rw [responseValue, apply_ite BitVec.toNat, toNat_serialValue]
  rfl

/-- The validation is a close and an end whose code and value the nine bytes fix. -/
theorem fsValidate_eq (s : State) :
    fsValidate s = fsFinish (responseValue s.fs.rx) (responseCode s.fs.rx) (serClose s) := by
  unfold fsValidate responseValue responseCode
  cases framingOk s.fs.rx with
  | false => rfl
  | true => cases serialChecksumOk s.fs.rx <;> rfl

/-! ### A changed byte (R351) -/

theorem framingOk_set_of_two_le {i : Fin 9} (h : 2 ≤ i.val) (b : Byte) : framingOk (rx.set i b) = framingOk rx := by
  have h0 : i.val ≠ 0 := by omega
  have h1 : i.val ≠ 1 := by omega
  simp only [framingOk, Vector.getElem_set_ne _ _ h0, Vector.getElem_set_ne _ _ h1]

/-- Each of the first two bytes has one value the framing check accepts. -/
theorem framingOk_set_of_zero_or_one {i : Fin 9} {b : Byte} (hok : framingOk rx = true) (hne : b ≠ rx[i])
    (h : i = 0 ∨ i = 1) :
    framingOk (rx.set i b) = false := by
  obtain ⟨h0, h1⟩ := framingOk_iff.mp hok
  rw [Bool.eq_false_iff, Ne, framingOk_iff]
  rintro ⟨hset0, hset1⟩
  obtain rfl | rfl := h
  · exact hne (((Vector.getElem_set_self _).symm.trans hset0).trans h0.symm)
  · exact hne (((Vector.getElem_set_self _).symm.trans hset1).trans h1.symm)

/-- A change of one summed byte changes the sum by as much. -/
theorem responseSum_set (i : Fin 8) (b : Byte) :
    responseSum (rx.set i.succ b) + rx[i.succ].toNat = responseSum rx + b.toNat := by
  fin_cases i <;> simp [responseSum] <;> omega

/-- Two different bytes are not congruent modulo 256, so the changed sum is no longer 0. -/
theorem serialChecksumOk_set (i : Fin 8) {b : Byte} (hok : serialChecksumOk rx = true) (hne : b ≠ rx[i.succ]) :
    serialChecksumOk (rx.set i.succ b) = false := by
  have hsum := responseSum_set (rx := rx) i b
  have hbytes : b.toNat ≠ rx[i.succ].toNat := fun h => hne (BitVec.eq_of_toNat_eq h)
  rw [serialChecksumOk_iff] at hok
  rw [Bool.eq_false_iff, Ne, serialChecksumOk_iff]
  omega

end Response

/-- Settles O41: the checksum complements the sum of bytes 1 to 7, so byte 8 equals it where all eight sum to 0. -/
theorem serialChecksumIsZeroSum : Obligations.SerialChecksumIsZeroSum := fun _ => serialChecksumOk_iff

/-- Settles O42: bytes 0 and 1 are fixed by the framing, and a change of any later byte moves the sum away from 0. -/
theorem singleByteMutationIsRejected : Obligations.SingleByteMutationIsRejected := by
  intro rx i b hframing hchecksum hne
  have hlow : i = 0 ∨ i = 1 → framingOk (rx.set i b) = false := framingOk_set_of_zero_or_one hframing hne
  have hhigh : 2 ≤ i.val → framingOk (rx.set i b) = true ∧ serialChecksumOk (rx.set i b) = false := by
    intro hi
    refine ⟨(framingOk_set_of_two_le hi b).trans hframing, ?_⟩
    obtain ⟨j, rfl⟩ := Fin.exists_succ_eq.mpr (Fin.pos_iff_ne_zero.mp (show 0 < i.val by omega))
    exact serialChecksumOk_set j hchecksum hne
  refine ⟨?_, hlow, hhigh⟩
  obtain hi | hi : (i = 0 ∨ i = 1) ∨ 2 ≤ i.val := by omega
  · rw [hlow hi, Bool.false_and]
  · obtain ⟨-, hbad⟩ := hhigh hi
    rw [hbad, Bool.and_false]

end Sys2Proof.Machine
end

section
/-! PROOFS: FS.READ as a run of events (43_serial.md R340 to R352): the answers to the open and to the write, the receive byte
by byte and tick by tick, and its ends. -/

namespace Sys2Proof.Machine

open Sys2Proof

section Serial

variable {p : Params} {s a u : State} {rx : Vector Byte 9} {j k n : Nat} {ok : Bool}

/-! ### The answers to the open and to the write (R340, R341, R348) -/

/-- The state once its serial request is answered: none is outstanding, and the port is open or not (R75, R124). -/
def serAnswered (serOpen : Bool) (s : State) : State :=
  { s with ports := { s.ports with pending := .none, serOpen := serOpen } }

theorem serDone_openPort (ha : s.seq.active = .fs) (ok : Bool) (n : Nat) :
    serDone .openPort ok n s = fsAnswer ok n (serAnswered (ok || s.ports.serOpen) s) := by
  simp only [serDone, ha, serAnswered]

theorem serDone_write (ha : s.seq.active = .fs) (bytes : List Byte) (ok : Bool) (n : Nat) :
    serDone (.write bytes) ok n s = fsAnswer ok n (serAnswered s.ports.serOpen s) := by
  simp only [serDone, ha, serAnswered]

theorem fsAnswer_open_good (hph : s.seq.phase = .fsOpen) (n : Nat) :
    fsAnswer true n s = issueSer (.write commandFrame) .fsWrite s := by
  simp [fsAnswer, hph]

theorem fsAnswer_open_failed (hph : s.seq.phase = .fsOpen) (n : Nat) :
    fsAnswer false n s = fsFinish 0 .transportUnavailable s := by
  simp [fsAnswer, hph]

theorem fsAnswer_write_good (hph : s.seq.phase = .fsWrite) :
    fsAnswer true 9 s = gotoAt .fsReceive 0 { s with fs := { s.fs with nrx := 0 } } := by
  simp [fsAnswer, hph]

theorem fsAnswer_write_failed (hph : s.seq.phase = .fsWrite) (h : ok = false ∨ n ≠ 9) :
    fsAnswer ok n s = fsFinish 0 .transportUnavailable (serClose s) := by
  have hbad : (ok && n == 9) = false := by
    obtain rfl | hn := h
    · rfl
    · rw [beq_false_of_ne hn, Bool.and_false]
  simp [fsAnswer, hph, hbad]

theorem serRxErr_of_receiving (hph : s.seq.phase = .fsReceive) :
    serRxErr s = fsFinish 0 .transportUnavailable (serClose s) := by
  simp [serRxErr, hph]

/-! ### The receive (R342) -/

/-- `u` is in the receive that `a` stands for: the first `j` bytes of `rx` have come, and `k` ticks since the last one. Of the
rest of the state, what FS.READ reads or writes, and the other units' results, are as in `a`. -/
structure SerReceiving (a : State) (rx : Vector Byte 9) (j k : Nat) (u : State) : Prop where
  active : u.seq.active = .fs
  phase : u.seq.phase = .fsReceive
  count : u.seq.k = k
  nrx : u.fs.nrx.toNat = j
  bytes : ∀ i (hi : i < 9), i < j → u.fs.rx[i] = rx[i]
  status : u.status = a.status
  fsValue : u.fsValue = a.fsValue
  ports : u.ports = a.ports
  owRegs : u.owRegs = a.owRegs
  cmpRegs : u.cmpRegs = a.cmpRegs
  lineElapsed : u.lineElapsed = a.lineElapsed
  mode : u.line.mode = a.line.mode
  out : u.line.out = a.line.out

/-- A state in the receive stands for its own. -/
theorem SerReceiving.refl (hactive : s.seq.active = .fs) (hphase : s.seq.phase = .fsReceive) :
    SerReceiving s s.fs.rx s.fs.nrx.toNat s.seq.k s :=
  ⟨hactive, hphase, rfl, rfl, fun _ _ _ => rfl, rfl, rfl, rfl, rfl, rfl, rfl, rfl, rfl⟩

/-- `t` is `a` after its FS.READ has ended with `code` and FS_VALUE `value`: the serial port is closed, and the other units'
results and the line's control are as they were (R347, R350). -/
structure FsEnded (a : State) (value : BitVec 16) (code : ResultCode) (t : State) : Prop where
  status : t.status = { a.status with result := code, done := true, busy := false }
  fsValue : t.fsValue = value
  ports : t.ports = { a.ports with serOpen := false }
  active : t.seq.active = .none
  owRegs : t.owRegs = a.owRegs
  cmpRegs : t.cmpRegs = a.cmpRegs
  lineElapsed : t.lineElapsed = a.lineElapsed
  mode : t.line.mode = a.line.mode
  out : t.line.out = a.line.out

/-- Every end of the receive closes the port first. -/
theorem SerReceiving.ended (h : SerReceiving a rx j k u) (value : BitVec 16) (code : ResultCode) :
    FsEnded a value code (fsFinish value code (serClose u)) where
  status := by rw [← h.status]; rfl
  fsValue := rfl
  ports := by rw [← h.ports]; rfl
  active := rfl
  owRegs := h.owRegs
  cmpRegs := h.cmpRegs
  lineElapsed := h.lineElapsed
  mode := h.mode
  out := h.out

/-! ### Ticks of the receive -/

theorem SerReceiving.tick_eq (h : SerReceiving a rx j k u) (e : Bool) :
    tick p e u =
      delayTick p.serIbt (fun t => fsFinish 0 .timeout (serClose t)) (latchSample (lineSample e u) u) := by
  rw [tick_of_fs h.active]
  simp only [fsTick, latchSample_seq, h.phase]

/-- A Tick that only samples and counts is one tick more. -/
theorem SerReceiving.counted (h : SerReceiving a rx j k u) (l : Bool) :
    SerReceiving a rx j (k + 1) (countOn (latchSample l u)) :=
  { h with count := congrArg (· + 1) h.count }

/-- A Tick before the `SER_IBT`-th one since the last byte counts. -/
theorem SerReceiving.tick_counts (h : SerReceiving a rx j k u) (e : Bool) (hk : k + 1 < p.serIbt) :
    SerReceiving a rx j (k + 1) (tick p e u) := by
  rw [h.tick_eq]
  obtain ⟨hends, -⟩ | ⟨-, hcounts⟩ := delayTick_cases p.serIbt (fun t => fsFinish 0 .timeout (serClose t))
    (latchSample (lineSample e u) u)
  · rw [latchSample_seq, h.count] at hends
    omega
  · rw [hcounts]
    exact h.counted _

/-- The `SER_IBT`-th Tick since the last byte ends the command (R342, R348). -/
theorem SerReceiving.tick_timeout (h : SerReceiving a rx j k u) (e : Bool) (hk : k + 1 = p.serIbt) :
    FsEnded a 0 .timeout (tick p e u) := by
  rw [h.tick_eq]
  obtain ⟨-, hends⟩ | ⟨hcounts, -⟩ := delayTick_cases p.serIbt (fun t => fsFinish 0 .timeout (serClose t))
    (latchSample (lineSample e u) u)
  · rw [hends]
    exact (h.counted _).ended 0 .timeout
  · rw [latchSample_seq, h.count] at hcounts
    omega

/-- A gap that stays below `SER_IBT` leaves the receive running. -/
theorem SerReceiving.run_gap (h : SerReceiving a rx j k u) {levels : List Bool} (hlength : k + levels.length < p.serIbt) :
    SerReceiving a rx j (k + levels.length) (afterTicks p levels u) := by
  induction levels generalizing k u with
  | nil => exact h
  | cons e rest ih =>
    rw [List.length_cons] at hlength ⊢
    have hrest := ih (h.tick_counts (p := p) e (by omega)) (by omega)
    rwa [Nat.add_assoc, Nat.add_comm 1] at hrest

/-- A silence of exactly `SER_IBT` ticks ends the command in its last one. -/
theorem SerReceiving.run_timeout (h : SerReceiving a rx j k u) {levels : List Bool} (hk : k < p.serIbt)
    (hlength : k + levels.length = p.serIbt) : FsEnded a 0 .timeout (afterTicks p levels u) := by
  obtain rfl | ⟨init, last, rfl⟩ := levels.eq_nil_or_concat'
  · rw [List.length_nil] at hlength
    omega
  · rw [List.length_append, List.length_singleton] at hlength
    rw [afterTicks_snoc]
    exact (h.run_gap (by omega)).tick_timeout last (by omega)

/-! ### Bytes of the receive -/

/-- The state with one byte more, and the ticks counted anew from it (R342). -/
def byteStored (b : Byte) (s : State) : State :=
  { s with
    fs := { rx := s.fs.rx.setIfInBounds s.fs.nrx.toNat b, nrx := s.fs.nrx + 1 }
    seq := { s.seq with k := 0 } }

theorem serRx_of_receiving (hph : s.seq.phase = .fsReceive) (b : Byte) :
    serRx b s = if s.fs.nrx + 1 = 9 then fsValidate (byteStored b s) else byteStored b s := by
  simp only [serRx, hph]
  rfl

theorem SerReceiving.byteStored (h : SerReceiving a rx j k u) (hj : j < 9) :
    SerReceiving a rx (j + 1) 0 (byteStored rx[j] u) :=
  { h with
    count := rfl
    nrx := by
      have hnrx := h.nrx
      change (u.fs.nrx + 1).toNat = j + 1
      bv_omega
    bytes := by
      intro i hi hij
      change (u.fs.rx.setIfInBounds u.fs.nrx.toNat rx[j])[i] = rx[i]
      rw [Vector.getElem_setIfInBounds, h.nrx]
      split
      · subst ‹j = i›
        rfl
      · exact h.bytes i hi (by omega) }

/-- A byte before the ninth is stored. -/
theorem SerReceiving.byte_stored (h : SerReceiving a rx j k u) (hj : j < 8) :
    SerReceiving a rx (j + 1) 0 (serRx rx[j] u) := by
  have hmore : ¬u.fs.nrx + 1 = 9 := by
    have hnrx := h.nrx
    bv_omega
  rw [serRx_of_receiving h.phase, if_neg hmore]
  exact h.byteStored (by omega)

/-- The nine bytes stored are the nine bytes that came. -/
theorem SerReceiving.rx_eq (h : SerReceiving a rx 9 k u) : u.fs.rx = rx :=
  Vector.ext fun i hi => h.bytes i hi hi

/-- The ninth byte ends the command with the code and the value of the nine. -/
theorem SerReceiving.byte_last (h : SerReceiving a rx 8 k u) :
    FsEnded a (responseValue rx) (responseCode rx) (serRx rx[8] u) := by
  have hlast : u.fs.nrx + 1 = 9 := by
    have hnrx := h.nrx
    bv_omega
  have hstored := h.byteStored (by decide)
  rw [serRx_of_receiving h.phase, if_pos hlast, fsValidate_eq, hstored.rx_eq]
  exact hstored.ended _ _

/-! ### A whole response (R342 to R347) -/

variable {gaps : Fin 9 → List Bool}

/-- The first `n` bytes of a response, each after its own gap. -/
def spacedBytes (rx : Vector Byte 9) (gaps : Fin 9 → List Bool) (n : Nat) : List Event :=
  ((List.finRange 9).take n).flatMap (fun i => ticks (gaps i) ++ [Event.serRx rx[i]])

theorem spacedBytes_succ (hn : n < 9) :
    spacedBytes rx gaps (n + 1) = spacedBytes rx gaps n ++ (ticks (gaps ⟨n, hn⟩) ++ [.serRx rx[n]]) := by
  have hlength : n < (List.finRange 9).length := by rwa [List.length_finRange]
  rw [spacedBytes, ← List.take_concat_get' _ _ hlength, List.flatMap_append, List.flatMap_singleton,
    List.getElem_finRange]
  rfl

/-- The events of a response before its ninth byte. -/
def beforeLastByte (rx : Vector Byte 9) (gaps : Fin 9 → List Bool) : List Event :=
  spacedBytes rx gaps 8 ++ ticks (gaps 8)

theorem spacedResponse_eq : spacedResponse rx gaps = beforeLastByte rx gaps ++ [.serRx rx[8]] :=
  (spacedBytes_succ (n := 8) (by decide)).trans (List.append_assoc ..).symm

theorem spacedResponse_dropLast : (spacedResponse rx gaps).dropLast = beforeLastByte rx gaps := by
  rw [spacedResponse_eq, List.dropLast_concat]

/-- The bytes before the ninth one after another, each stored and its gap forgotten. -/
theorem SerReceiving.run_bytes (h : SerReceiving a rx 0 0 u) (hgaps : ∀ i, (gaps i).length < p.serIbt) (hn : n ≤ 8) :
    ∃ v, runEvents p (spacedBytes rx gaps n) u = .next v ∧ SerReceiving a rx n 0 v := by
  induction n with
  | zero => exact ⟨u, rfl, h⟩
  | succ n ih =>
    obtain ⟨v, hrun, hv⟩ := ih (by omega)
    have hgap := hv.run_gap (p := p) (levels := gaps ⟨n, by omega⟩) (by rw [Nat.zero_add]; exact hgaps _)
    refine ⟨_, ?_, hgap.byte_stored (by omega)⟩
    rw [spacedBytes_succ (by omega), runEvents_append hrun, runEvents_append (runEvents_ticks p _ v)]
    rfl

theorem SerReceiving.run_beforeLastByte (h : SerReceiving a rx 0 0 u) (hgaps : ∀ i, (gaps i).length < p.serIbt) :
    ∃ v, runEvents p (beforeLastByte rx gaps) u = .next v ∧ SerReceiving a rx 8 (0 + (gaps 8).length) v := by
  obtain ⟨v, hrun, hv⟩ := h.run_bytes hgaps le_rfl
  exact ⟨_, (runEvents_append hrun).trans (runEvents_ticks p _ v), hv.run_gap (by rw [Nat.zero_add]; exact hgaps 8)⟩

/-! ### The whole exchange (R340 to R347) -/

/-- A CMD write of a legal value runs the command it decodes to (R42). -/
theorem handleEvent_WR_cmd (p : Params) {v : Word} {i : Instr} (hdecode : decode v = .command i) (s : State) :
    handleEvent p (WR .cmd v) s = exec i { s with reply := .done } := by
  rw [handleEvent_WR]
  simp only [writeReg, writeCmd, hdecode]

/-- The CMD write of an FS.READ to an idle SFE issues the open (R340). -/
theorem fsRead_write_of_idle (p : Params) (hidle : s.status.busy = false) :
    handleEvent p (WR .cmd 0x00000002) s = .next (issueSer .openPort .fsOpen { s with
      reply := .done
      status := { s.status with lastOp := 0x02, done := false, result := .ok, busy := true }
      seq := { s.seq with active := .fs }
      fs := { s.fs with nrx := 0 } }) := by
  have hdecode : decode 0x00000002 = .command .fsRead := decodeOfEncode .fsRead rfl
  exact (handleEvent_WR_cmd p hdecode s).trans (fsReadIsAccepted { s with reply := .done } hidle)

theorem open_good_answered (ha : s.seq.active = .fs) (n : Nat) :
    handleEvent p (.serDone true n) (issueSer .openPort .fsOpen s) =
      .next (issueSer (.write commandFrame) .fsWrite (serAnswered true s)) := by
  rw [handleEvent_serDone rfl, serDone_openPort (s := issueSer .openPort .fsOpen s) ha, fsAnswer_open_good rfl]
  rfl

theorem write_good_answered (ha : s.seq.active = .fs) (bytes : List Byte) :
    handleEvent p (.serDone true 9) (issueSer (.write bytes) .fsWrite s) =
      .next (gotoAt .fsReceive 0 { serAnswered s.ports.serOpen s with fs := { s.fs with nrx := 0 } }) := by
  rw [handleEvent_serDone rfl, serDone_write (s := issueSer (.write bytes) .fsWrite s) ha, fsAnswer_write_good rfl]
  rfl

/-- `s` with an FS.READ accepted and its port open: what the receive that follows stands for. -/
def fsReadUnderWay (s : State) : State :=
  serAnswered true { s with status := { s.status with lastOp := 0x02, done := false, result := .ok, busy := true } }

/-- From the CMD write over a good open and a good write to the receive. -/
theorem run_to_receive_of_idle (hidle : s.status.busy = false) (rx : Vector Byte 9) (n : Nat) :
    ∃ u, SerReceiving (fsReadUnderWay s) rx 0 0 u ∧
      ∀ rest, runEvents p (WR .cmd 0x00000002 :: .serDone true n :: .serDone true 9 :: rest) s = runEvents p rest u := by
  have hrun (rest : List Event) :=
    (runEvents_cons (p := p) (rest := .serDone true n :: .serDone true 9 :: rest) (fsRead_write_of_idle p hidle)).trans
      ((runEvents_cons (open_good_answered rfl n)).trans (runEvents_cons (write_good_answered rfl commandFrame)))
  refine ⟨_, ?_, hrun⟩
  exact ⟨rfl, rfl, rfl, rfl, nofun, rfl, rfl, rfl, rfl, rfl, rfl, rfl, rfl⟩

end Serial

/-- Settles O43: the exchange reaches the receive, whose first eight bytes are stored, and the ninth validates all nine. -/
theorem fsReadValidatesEveryResponse : Obligations.FsReadValidatesEveryResponse := by
  intro p s rx gaps n hidle _ hgaps
  obtain ⟨v, hv, hopened⟩ := run_to_receive_of_idle (p := p) hidle rx n
  obtain ⟨u, hbytes, hu⟩ := hv.run_beforeLastByte hgaps
  have ht := hu.byte_last
  have hstatus : (serRx rx[8] u).status = { s.status with
      lastOp := 0x02, done := true, busy := false, result := responseCode rx } := ht.status
  refine ⟨⟨u, ?_, ?_, hu.fsValue, ?_⟩, serRx rx[8] u, ?_, ?_, ?_, ht.ports, ht.active, ht.owRegs, ht.cmpRegs,
    ht.lineElapsed, ht.mode, ht.out⟩
  · rw [hopened, spacedResponse_dropLast, hbytes]
  · rw [hu.status]
    rfl
  · rw [hu.ports]
    rfl
  · rw [hopened, spacedResponse_eq, runEvents_append hbytes]
    rfl
  · rw [hstatus, responseCode_eq]
    rfl
  · rw [hstatus, regWord, ht.fsValue, BitVec.toNat_setWidth_of_le (by decide), toNat_responseValue]

/-- Settles O44: each tick before the last one counts, and the last one ends the receive. -/
theorem silentSerialSensorTimesOut : Obligations.SilentSerialSensorTimesOut := by
  intro p s levels hibt hactive hphase hk _
  have hs := SerReceiving.refl hactive hphase
  rw [hk] at hs
  refine ⟨_, runEvents_ticks p levels s, fun hless => ?_, fun hall => ?_⟩
  · have hu := hs.run_gap (p := p) (levels := levels) (by rwa [Nat.zero_add])
    exact ⟨hu.phase, hu.status, hu.fsValue⟩
  · have ht := hs.run_timeout hibt ((Nat.zero_add _).trans hall)
    refine ⟨ht.status, ?_, ?_, ht.active⟩
    · rw [regWord, ht.fsValue]
      rfl
    · rw [ht.ports]

/-- Settles O46: the control point says which request is outstanding; a failed open finds the port closed, and the other two
failures close it. -/
theorem serialFailureEndsTransportUnavailable : Obligations.SerialFailureEndsTransportUnavailable := by
  intro p s e hinv hactive hfailure
  obtain ⟨hphase, n, rfl⟩ | ⟨hphase, ok, n, rfl, hbad⟩ | ⟨hphase, rfl⟩ := hfailure
  · have hpending : s.ports.pending = .ser .openPort := by rw [hinv.request, hphase]; rfl
    have hclosed : s.ports.serOpen = false := by rw [hinv.ser_port, hphase]; rfl
    refine ⟨_, handleEvent_serDone hpending false n, ?_⟩
    rw [serDone_openPort hactive, fsAnswer_open_failed (s := serAnswered _ s) hphase]
    exact ⟨rfl, rfl, hclosed, rfl, rfl⟩
  · have hpending : s.ports.pending = .ser (.write commandFrame) := by rw [hinv.request, hphase]; rfl
    refine ⟨_, handleEvent_serDone hpending ok n, ?_⟩
    rw [serDone_write hactive, fsAnswer_write_failed (s := serAnswered _ s) hphase hbad]
    exact ⟨rfl, rfl, rfl, rfl, rfl⟩
  · have hpending : s.ports.pending = .none := by rw [hinv.request, hphase]; rfl
    refine ⟨serRxErr s, rfl, ?_⟩
    rw [serRxErr_of_receiving hphase]
    exact ⟨rfl, rfl, rfl, hpending, rfl⟩

end Sys2Proof.Machine
end

section
/-! PROOFS: the CMD write and the frame of a command's own event (60_exceptions.md R373, R376, R378), and the interrupt line
(R374, R50). -/

namespace Sys2Proof.Machine

open Sys2Proof

/-! ### The event of a command (R378) -/

/-- The "on acceptance" step of a command's unit (R230, R280, R340, R216). -/
def onAcceptance : Instr → State → State
  | .owRead => owStart
  | .fsRead => fsStart
  | .cmpRead => cmpStart
  | .lineWait level timeout => lwStart level timeout

/-- STATUS is set for an accepted command, and all else is as before: its unit's first step starts from here (R378). -/
def accepted (i : Instr) (s : State) : State :=
  { s with status := { s.status with lastOp := i.opcode, done := false, result := .ok, busy := true } }

/-- What lies outside STATUS, the sequencer, the engines and the ports is as before. -/
structure KeepsRegisters (s t : State) : Prop where
  intEn : t.intEn = s.intEn
  line : t.line = s.line
  lineElapsed : t.lineElapsed = s.lineElapsed
  owRegs : t.owRegs = s.owRegs
  fsValue : t.fsValue = s.fsValue
  cmpCfg : t.cmpCfg = s.cmpCfg
  cmpRegs : t.cmpRegs = s.cmpRegs
  reply : t.reply = s.reply
  inbox : t.inbox = s.inbox
  draws : t.draws = s.draws

section CommandEvent

variable {i : Instr} {s t : State}

theorem exec_eq_accept (i : Instr) (s : State) : exec i s = .next (accept i.opcode (onAcceptance i) s) := by
  cases i <;> rfl

theorem exec_of_idle (h : s.status.busy = false) : exec i s = .next (onAcceptance i (accepted i s)) := by
  rw [exec_eq_accept, accept_of_idle h]
  rfl

/-- A command's own event either drops it with OVERRUN or accepts it and does its unit's first step. -/
theorem exec_cases (h : exec i s = .next t) :
    (s.status.busy = true ∧ t = setOverrun s) ∨
    (s.status.busy = false ∧ t = onAcceptance i (accepted i s)) := by
  cases hb : s.status.busy with
  | true => rw [exec_of_busy hb] at h; cases h; exact .inl ⟨rfl, rfl⟩
  | false => rw [exec_of_idle hb] at h; cases h; exact .inr ⟨rfl, rfl⟩

/-! What the first step of a unit leaves alone. -/

theorem onAcceptance_status (i : Instr) (s : State) : (onAcceptance i s).status = s.status := by cases i <;> rfl

/-- The first step of a unit touches the sequencer, the engines and the ports only. -/
theorem onAcceptance_keepsRegisters (i : Instr) (s : State) : KeepsRegisters s (onAcceptance i s) := by
  cases i <;> exact ⟨rfl, rfl, rfl, rfl, rfl, rfl, rfl, rfl, rfl, rfl⟩

theorem onAcceptance_busOpen (i : Instr) (s : State) : (onAcceptance i s).ports.busOpen = s.ports.busOpen := by
  cases i <;> rfl

theorem onAcceptance_serOpen (i : Instr) (s : State) : (onAcceptance i s).ports.serOpen = s.ports.serOpen := by
  cases i <;> rfl

theorem onAcceptance_ow (h : i ≠ .owRead) (s : State) : (onAcceptance i s).ow = s.ow := by
  cases i with
  | owRead => exact absurd rfl h
  | _ => rfl

theorem onAcceptance_cmp (h : i ≠ .cmpRead) (s : State) : (onAcceptance i s).cmp = s.cmp := by
  cases i with
  | cmpRead => exact absurd rfl h
  | _ => rfl

theorem onAcceptance_fs (h : i ≠ .fsRead) (s : State) : (onAcceptance i s).fs = s.fs := by
  cases i with
  | fsRead => exact absurd rfl h
  | _ => rfl

theorem exec_keepsRegisters (h : exec i s = .next t) : KeepsRegisters s t := by
  obtain ⟨-, rfl⟩ | ⟨-, rfl⟩ := exec_cases h
  · exact ⟨rfl, rfl, rfl, rfl, rfl, rfl, rfl, rfl, rfl, rfl⟩
  · exact { onAcceptance_keepsRegisters i (accepted i s) with }

/-- No register but STATUS shows the sequencer, the engines or the ports. -/
theorem KeepsRegisters.regWord_eq (h : KeepsRegisters s t) {r : Reg} (hr : r ≠ .status) :
    regWord r t = regWord r s := by
  obtain ⟨hintEn, hline, hlineElapsed, howRegs, hfsValue, hcmpCfg, hcmpRegs, -, -, -⟩ := h
  cases r with
  | status => exact absurd rfl hr
  | intEn => simp only [regWord, intEnWord, hintEn]
  | lineCtrl => simp only [regWord, lineCtrlWord, hline]
  | _ => simp only [regWord, hlineElapsed, howRegs, hfsValue, hcmpCfg, hcmpRegs]

end CommandEvent

/-- Settles O12: the frame of `exec`, then the ports and the engines in each of its two cases. -/
theorem commandEventFrame : Obligations.CommandEventFrame := by
  intro i s t h
  have hkeeps := exec_keepsRegisters h
  refine ⟨fun r hr => hkeeps.regWord_eq hr, hkeeps.line, ?_⟩
  obtain ⟨hb, rfl⟩ | ⟨hb, rfl⟩ := exec_cases h
  · simp [setOverrun, hb]
  · refine ⟨onAcceptance_busOpen i _, onAcceptance_serOpen i _, ?_, fun hi => onAcceptance_ow hi _,
      fun hi => onAcceptance_cmp hi _, fun hi => onAcceptance_fs hi _, ?_, ?_, ?_, hkeeps.reply, hkeeps.inbox,
      hkeeps.draws⟩
    · rw [onAcceptance_status, hb, Bool.or_false]
      rfl
    · rintro rfl
      exact ⟨rfl, rfl, rfl⟩
    · rintro rfl
      rfl
    · rintro rfl
      rfl

/-! ### The CMD write (R378) -/

section CmdWrite

variable {v : Word} {s : State}

theorem handleEvent_WR_illegal (p : Params) {why : DecodeError} (hdecode : decode v = .illegal why) (s : State) :
    handleEvent p (WR .cmd v) s = .next (rejectCommand v { s with reply := .done }) := by
  rw [handleEvent_WR]
  simp only [writeReg, writeCmd, hdecode]

/-- The field OPC of the word that carries a command is the command's opcode (R152). -/
theorem opcOf_of_decode {i : Instr} (h : decode v = .command i) : opcOf v = i.opcode := by
  obtain ⟨-, rfl⟩ := encodeOfDecode v i h
  cases i with
  | owRead => exact Laws.LastOp.owRead
  | fsRead => exact Laws.LastOp.fsRead
  | cmpRead => exact Laws.LastOp.cmpRead
  | lineWait level timeout => exact Laws.LastOp.lineWait level timeout

/-- While BUSY every CMD write is dropped with OVERRUN, a legal one as an illegal one (R376). -/
theorem handleEvent_WR_cmd_of_busy (p : Params) (v : Word) (hb : s.status.busy = true) :
    handleEvent p (WR .cmd v) s = .next (setOverrun { s with reply := .done }) := by
  cases hdecode : decode v with
  | command i => exact (handleEvent_WR_cmd p hdecode s).trans (exec_of_busy hb)
  | illegal why =>
    rw [handleEvent_WR_illegal p hdecode, rejectCommand_of_busy (s := { s with reply := .done }) hb]

end CmdWrite

/-- Settles O7: the two cases while idle are the rejection and the acceptance; the word names the opcode. -/
theorem cmdWriteIsAcceptedOrDropped : Obligations.CmdWriteIsAcceptedOrDropped := by
  intro p s v
  refine ⟨handleEvent_WR_cmd_of_busy p v, fun hidle why hdecode => ?_, fun hidle i hdecode => ?_⟩
  · rw [handleEvent_WR_illegal p hdecode, rejectCommand_of_idle (s := { s with reply := .done }) hidle]
    rfl
  · refine ⟨_, (handleEvent_WR_cmd p hdecode s).trans (exec_of_idle hidle), ?_⟩
    rw [onAcceptance_status, accepted, ← opcOf_of_decode hdecode]
    rfl

/-! ### The interrupt line (R374, R50) -/

section Interrupt

variable (s : State)

theorem intEnWord_doneIe : (intEnWord s).getLsbD 0 = s.intEn.doneIe := by
  simp only [intEnWord, BitVec.getLsbD_append]
  simp

theorem intEnWord_ovrIe : (intEnWord s).getLsbD 1 = s.intEn.ovrIe := by
  simp only [intEnWord, BitVec.getLsbD_append]
  simp

/-- The two enables are what a read of INT_EN returns; every other bit reads 0. -/
theorem intEnWord_writeIntEn (v : Word) : intEnWord (writeIntEn v s) = v &&& 0x00000003 := by
  apply BitVec.eq_of_getLsbD_eq
  intro j hj
  match j with
  | 0 => rw [intEnWord_doneIe, BitVec.getLsbD_and]; exact (Bool.and_true _).symm
  | 1 => rw [intEnWord_ovrIe, BitVec.getLsbD_and]; exact (Bool.and_true _).symm
  | j + 2 =>
    have hmask : ∀ m : Fin 30, (0x00000003 : Word).getLsbD (m.val + 2) = false := by decide
    rw [BitVec.getLsbD_and, hmask ⟨j, by omega⟩, Bool.and_false]
    simp only [intEnWord, BitVec.getLsbD_append]
    simp

theorem irq_eq : irq s =
    ((s.status.done && (intEnWord s).getLsbD 0) || (s.status.overrun && (intEnWord s).getLsbD 1)) := by
  rw [intEnWord_doneIe, intEnWord_ovrIe, irq]

/-- Acceptance takes DONE away and leaves OVERRUN and the enables. -/
theorem irq_onAcceptance (i : Instr) :
    irq (onAcceptance i (accepted i s)) = (s.status.overrun && s.intEn.ovrIe) := by
  rw [irq, onAcceptance_status, (onAcceptance_keepsRegisters i _).intEn]
  simp [accepted]

end Interrupt

/-- Settles O24: the two writes by `writeIntEn` and `writeStatus`, the acceptance by `exec_of_idle`. -/
theorem interruptFollowsFlags : Obligations.InterruptFollowsFlags := by
  intro p s v i
  exact ⟨irq_eq s, ⟨_, handleEvent_WR p .intEn v s, rfl, rfl, rfl, intEnWord_writeIntEn _ v, rfl⟩,
    ⟨_, handleEvent_WR p .status v s, rfl⟩, fun hidle => ⟨_, exec_of_idle hidle, irq_onAcceptance s i⟩⟩

end Sys2Proof.Machine
end

section
/-! PROOFS: which event writes a unit's result registers, and with which code it ends the unit's command (60_exceptions.md
R371 to R373). Every event but Reset either lets the active command go on and leaves all results alone, or ends it. -/

namespace Sys2Proof.Machine

open Sys2Proof

/-! ### Results and progress (R371 to R373) -/

/-- The result and diagnostic registers of the four units (R373). -/
def State.results (s : State) : OwRegs × BitVec 16 × CmpRegs × BitVec 16 :=
  (s.owRegs, s.fsValue, s.cmpRegs, s.lineElapsed)

/-- The units other than the one of `a` have the results they had. -/
structure KeepsOtherResults (a : Active) (s t : State) : Prop where
  owRegs : a ≠ .ow → t.owRegs = s.owRegs
  fsValue : a ≠ .fs → t.fsValue = s.fsValue
  cmpRegs : a ≠ .cmp → t.cmpRegs = s.cmpRegs
  lineElapsed : a ≠ .lw → t.lineElapsed = s.lineElapsed

/-- What an event other than Reset makes of the active command `a`: it goes on and every result is as it was, or it ends
with a code of its own row and has written results of its own unit only. -/
inductive CommandProgress (a : Active) (s t : State) : Prop where
  | goesOn (busy : s.status.busy = true → t.status.busy = true) (results : t.results = s.results)
  | ends (idle : t.status.busy = false) (done : t.status.done = true) (code : mayEndWith a t.status.result = true)
      (others : KeepsOtherResults a s t)

theorem KeepsRegisters.results_eq {s t : State} (h : KeepsRegisters s t) : t.results = s.results := by
  simp only [State.results, h.owRegs, h.fsValue, h.cmpRegs, h.lineElapsed]

section Progress

variable {p : Params} {a : Active} {s t u : State}

/-- The part of an event before the command's own step leaves BUSY and the results alone. -/
theorem CommandProgress.after (h : CommandProgress a u t) (hstatus : u.status = s.status)
    (hresults : u.results = s.results) : CommandProgress a s t := by
  cases h with
  | goesOn busy results => exact .goesOn (hstatus ▸ busy) (results.trans hresults)
  | ends idle done code others =>
    obtain ⟨how, hfs, hcmp, hlw⟩ := others
    simp only [State.results, Prod.mk.injEq] at hresults
    obtain ⟨eow, efs, ecmp, elw⟩ := hresults
    exact .ends idle done code ⟨eow ▸ how, efs ▸ hfs, ecmp ▸ hcmp, elw ▸ hlw⟩

theorem progress_delayTick {n : Nat} {next : State → State} (h : ∀ u, CommandProgress a u (next u)) :
    CommandProgress a s (delayTick n next s) := by
  obtain ⟨-, hd⟩ | ⟨-, hd⟩ := delayTick_cases n next s
  · rw [hd]; exact (h (countOn s)).after rfl rfl
  · rw [hd]; exact .goesOn id rfl

/-! Each unit's end of its command. -/

theorem progress_lwFinish {c : ResultCode} (hc : mayEndWith .lw c = true) (elapsed : Nat) :
    CommandProgress .lw s (lwFinish elapsed c s) :=
  .ends rfl rfl hc ⟨fun _ => rfl, fun _ => rfl, fun _ => rfl, fun h => absurd rfl h⟩

theorem progress_fsFinish {c : ResultCode} (hc : mayEndWith .fs c = true) (value : BitVec 16) :
    CommandProgress .fs s (fsFinish value c s) :=
  .ends rfl rfl hc ⟨fun _ => rfl, fun h => absurd rfl h, fun _ => rfl, fun _ => rfl⟩

theorem progress_fsClose {c : ResultCode} (hc : mayEndWith .fs c = true) (value : BitVec 16) :
    CommandProgress .fs s (fsFinish value c (serClose s)) :=
  (progress_fsFinish hc value).after rfl rfl

theorem progress_owSucceed : CommandProgress .ow s (owSucceed s) :=
  .ends rfl rfl rfl ⟨fun h => absurd rfl h, fun _ => rfl, fun _ => rfl, fun _ => rfl⟩

theorem progress_owExhaust : CommandProgress .ow s (owExhaust s) :=
  .ends rfl rfl rfl ⟨fun h => absurd rfl h, fun _ => rfl, fun _ => rfl, fun _ => rfl⟩

theorem progress_cmpFail {c : ResultCode} (hc : mayEndWith .cmp c = true) : CommandProgress .cmp s (cmpFail c s) :=
  .ends rfl rfl hc ⟨fun _ => rfl, fun _ => rfl, fun h => absurd rfl h, fun _ => rfl⟩

theorem progress_cmpEnd {c : ResultCode} (hc : mayEndWith .cmp c = true) : CommandProgress .cmp s (cmpEnd c s) := by
  cases c with
  | ok => exact .ends rfl rfl hc ⟨fun _ => rfl, fun _ => rfl, fun h => absurd rfl h, fun _ => rfl⟩
  | _ => exact progress_cmpFail hc

/-! ### The units' events -/

theorem progress_lwTick (sample : Bool) : CommandProgress .lw s (lwTick sample s) := by
  unfold lwTick
  split
  · exact progress_lwFinish rfl _
  · exact progress_lwFinish rfl _
  · exact .goesOn id rfl

theorem progress_failAttempt (reason : ResultCode) (fp : OwPhase) (fb : BitVec 6) :
    CommandProgress .ow s (failAttempt p reason fp fb s) := by
  obtain ⟨-, hf⟩ | ⟨-, hf⟩ := failAttempt_cases p reason fp fb s
  · rw [hf]; exact progress_owExhaust.after rfl rfl
  · rw [hf]; exact .goesOn id rfl

theorem progress_frameDone : CommandProgress .ow s (frameDone p s) := by
  unfold frameDone
  split
  · exact progress_owSucceed
  · exact progress_failAttempt _ _ _

theorem progress_storeBit (e : Nat) : CommandProgress .ow s (storeBit p e s) := by
  dsimp only [storeBit]
  split
  · exact .goesOn id rfl
  · exact progress_frameDone.after rfl rfl

theorem progress_owAdvance (ph : OwPhase) (e : Nat) : CommandProgress .ow s (owAdvance p ph e s) := by
  cases ph with
  | bitLow => exact progress_storeBit e
  | _ => exact .goesOn id rfl

theorem progress_owWaitTick (ph : OwPhase) (sample : Bool) : CommandProgress .ow s (owWaitTick p ph sample s) := by
  unfold owWaitTick
  split
  · exact progress_owAdvance ph _
  · exact progress_failAttempt _ _ _
  · exact .goesOn id rfl

theorem progress_owTick (sample : Bool) : CommandProgress .ow s (owTick p sample s) := by
  unfold owTick
  split
  case h_1 | h_10 => exact .goesOn id rfl
  case h_2 | h_3 => exact progress_delayTick fun _ => .goesOn id rfl
  all_goals exact progress_owWaitTick _ sample

theorem progress_fsAnswer (ok : Bool) (n : Nat) : CommandProgress .fs s (fsAnswer ok n s) := by
  unfold fsAnswer
  split
  · split
    · exact .goesOn id rfl
    · exact progress_fsFinish rfl 0
  · split
    · exact .goesOn id rfl
    · exact progress_fsClose rfl 0
  · exact .goesOn id rfl

theorem progress_fsValidate : CommandProgress .fs s (fsValidate s) := by
  unfold fsValidate
  split
  · exact progress_fsClose rfl 0
  · split
    · exact progress_fsClose rfl 0
    · exact progress_fsClose rfl _

theorem progress_fsByte (b : Byte) : CommandProgress .fs s (fsByte b s) := by
  dsimp only [fsByte]
  split
  · exact progress_fsValidate.after rfl rfl
  · exact .goesOn id rfl

theorem progress_fsTick : CommandProgress .fs s (fsTick p s) := by
  unfold fsTick
  split
  · exact progress_delayTick fun _ => progress_fsClose rfl 0
  · exact .goesOn id rfl

theorem progress_cmpTick : CommandProgress .cmp s (cmpTick p s) := by
  unfold cmpTick
  split
  · exact progress_delayTick fun _ => .goesOn id rfl
  · exact .goesOn id rfl

theorem progress_cmpStatus (st : Byte) : CommandProgress .cmp s (cmpStatus p st s) := by
  unfold cmpStatus
  split
  · exact .goesOn id rfl
  · split
    · exact .goesOn id rfl
    · split <;> exact .goesOn id rfl

theorem progress_cmpCompute (bytes : List Byte) : CommandProgress .cmp s (cmpCompute bytes s) := by
  dsimp only [cmpCompute]
  split <;> exact .goesOn id rfl

/-- CMP.READ ends where its open fails, and with the close's answer, with the code the close was issued for. -/
theorem progress_cmpAnswer (good : Bool) (bytes : List Byte)
    (hclose : ∀ c, s.seq.phase = .cmpClose c → mayEndWith .cmp c = true) :
    CommandProgress .cmp s (cmpAnswer p good bytes s) := by
  unfold cmpAnswer
  cases hph : s.seq.phase with
  | cmpOpen =>
    cases good with
    | true => exact .goesOn id rfl
    | false => exact progress_cmpFail rfl
  | cmpStatus =>
    cases good with
    | true => exact progress_cmpStatus _
    | false => exact .goesOn id rfl
  | cmpBurst =>
    cases good with
    | true => exact progress_cmpCompute bytes
    | false => exact .goesOn id rfl
  | cmpClose c => exact progress_cmpEnd (hclose c hph)
  | _ => cases good <;> exact .goesOn id rfl

/-- The close is issued for a code of CMP.READ's own row. -/
theorem Inv.mayEndWith_of_cmpClose (h : Inv p s) {c : ResultCode} (hph : s.seq.phase = .cmpClose c) :
    mayEndWith .cmp c = true := by
  have hphase := h.phase
  rw [PhaseInv, hph] at hphase
  obtain ⟨hcode, -⟩ := hphase
  exact hcode

/-! ### Events and steps -/

theorem progress_writeCmd {v : Word} (h : writeCmd v s = .next t) : CommandProgress a s t := by
  unfold writeCmd at h
  split at h
  · refine .goesOn (fun hb => ?_) (exec_keepsRegisters h).results_eq
    rw [exec_of_busy hb] at h
    cases h
    exact hb
  · cases h
    unfold rejectCommand
    split <;> exact .goesOn id rfl

theorem progress_writeReg {r : Reg} {v : Word} (h : writeReg r v s = .next t) : CommandProgress a s t := by
  cases r with
  | cmd => exact progress_writeCmd h
  | lineCtrl =>
    cases h
    unfold writeLineCtrl
    split <;> exact .goesOn id rfl
  | _ => cases h; exact .goesOn id rfl

theorem progress_tick (e : Bool) : CommandProgress s.seq.active s (tick p e s) := by
  cases ha : s.seq.active with
  | none => rw [tick_of_idle ha]; exact .goesOn id rfl
  | ow => rw [tick_of_ow ha]; exact (progress_owTick _).after rfl rfl
  | fs => rw [tick_of_fs ha]; exact progress_fsTick.after rfl rfl
  | cmp => rw [tick_of_cmp ha]; exact progress_cmpTick.after rfl rfl
  | lw => rw [tick_of_lw ha]; exact (progress_lwTick _).after rfl rfl

theorem progress_busDone (h : Inv p s) (r : BusReq) (ok : Bool) (bytes : List Byte) :
    CommandProgress s.seq.active s (busDone p r ok bytes s) := by
  cases ha : s.seq.active with
  | cmp =>
    rw [busDone_of_cmp ha]
    refine (progress_cmpAnswer _ bytes ?_).after rfl rfl
    exact fun _ => h.mayEndWith_of_cmpClose
  | _ => simp only [busDone, ha]; exact .goesOn id rfl

theorem progress_serDone (r : SerReq) (ok : Bool) (n : Nat) :
    CommandProgress s.seq.active s (serDone r ok n s) := by
  cases ha : s.seq.active with
  | fs => simp only [serDone, ha]; exact (progress_fsAnswer ok n).after rfl rfl
  | _ => simp only [serDone, ha]; exact .goesOn id rfl

theorem Inv.active_of_receiving (h : Inv p s) (hph : s.seq.phase = .fsReceive) : s.seq.active = .fs := by
  rw [h.phase_owner, hph]
  rfl

theorem progress_serRx (h : Inv p s) (b : Byte) : CommandProgress s.seq.active s (serRx b s) := by
  unfold serRx
  split
  · rw [h.active_of_receiving ‹_›]; exact progress_fsByte b
  · exact .goesOn id rfl

theorem progress_serRxErr (h : Inv p s) : CommandProgress s.seq.active s (serRxErr s) := by
  unfold serRxErr
  split
  · rw [h.active_of_receiving ‹_›]; exact progress_fsClose rfl 0
  · exact .goesOn id rfl

/-- Every event but Reset lets the active command go on or ends it in the way of its own row. -/
theorem progress_handleEvent {e : Event} (h : Inv p s) (he : handleEvent p e s = .next t) (hreset : e ≠ .reset) :
    CommandProgress s.seq.active s t := by
  obtain ⟨w, off, v, -, ⟨why, -, rfl⟩ | ⟨-, -, rfl⟩ | ⟨r, -, -, hwrite⟩⟩ | ⟨w, off, answer, -, rfl⟩ | ⟨l, -, rfl⟩ |
    ⟨ok, bytes, r, -, -, rfl⟩ | ⟨ok, n, r, -, -, rfl⟩ | ⟨b, -, rfl⟩ | ⟨-, rfl⟩ | ⟨rfl, -⟩ := handleEvent_cases he
  · exact .goesOn id rfl
  · exact .goesOn id rfl
  · exact (progress_writeReg hwrite).after rfl rfl
  · exact .goesOn id rfl
  · exact progress_tick l
  · exact progress_busDone h r ok bytes
  · exact progress_serDone r ok n
  · exact progress_serRx h b
  · exact progress_serRxErr h
  · exact absurd rfl hreset

/-! Taking the next event from the environment changes the model's own fields only. -/

theorem nextEvent_status (s : State) : (nextEvent s).2.status = s.status := by unfold nextEvent; split <;> rfl

theorem nextEvent_seq (s : State) : (nextEvent s).2.seq = s.seq := by unfold nextEvent; split <;> rfl

theorem nextEvent_results (s : State) : (nextEvent s).2.results = s.results := by unfold nextEvent; split <;> rfl

theorem inv_nextEvent (h : Inv p s) : Inv p (nextEvent s).2 := by
  unfold nextEvent
  split <;> exact { h with }

theorem progress_step (h : Inv Config.params s) (hstep : step s = .next t) (hreset : (nextEvent s).1 ≠ .reset) :
    CommandProgress s.seq.active s t := by
  have hprogress := progress_handleEvent (inv_nextEvent h) hstep hreset
  rw [nextEvent_seq] at hprogress
  exact hprogress.after (nextEvent_status s) (nextEvent_results s)

/-- Where the results change, the command of the changed unit has ended. -/
theorem CommandProgress.results_change (h : CommandProgress a s t) :
    (t.owRegs ≠ s.owRegs → a = .ow ∧ t.status.busy = false ∧ t.status.done = true) ∧
    (t.fsValue ≠ s.fsValue → a = .fs ∧ t.status.busy = false ∧ t.status.done = true) ∧
    (t.cmpRegs ≠ s.cmpRegs → a = .cmp ∧ t.status.busy = false ∧ t.status.done = true) ∧
    (t.lineElapsed ≠ s.lineElapsed → a = .lw ∧ t.status.busy = false ∧ t.status.done = true) := by
  cases h with
  | goesOn busy results =>
    simp only [State.results, Prod.mk.injEq] at results
    obtain ⟨how, hfs, hcmp, hlw⟩ := results
    exact ⟨absurd how, absurd hfs, absurd hcmp, absurd hlw⟩
  | ends idle done code others =>
    exact ⟨fun hne => ⟨not_imp_comm.mp others.owRegs hne, idle, done⟩,
      fun hne => ⟨not_imp_comm.mp others.fsValue hne, idle, done⟩,
      fun hne => ⟨not_imp_comm.mp others.cmpRegs hne, idle, done⟩,
      fun hne => ⟨not_imp_comm.mp others.lineElapsed hne, idle, done⟩⟩

end Progress

/-- Settles O13: a Reset leaves DONE = 0, and every other event that ends the command ends it with a code of its row. -/
theorem commandEndsWithItsOwnCodes : Obligations.CommandEndsWithItsOwnCodes := by
  intro s t h hstep hbusy hidle hdone
  by_cases hreset : (nextEvent s).1 = .reset
  · have hevent : handleEvent Config.params (nextEvent s).1 (nextEvent s).2 = .next t := hstep
    rw [hreset] at hevent
    cases hevent
    cases hdone
  · cases progress_step h hstep hreset with
    | goesOn busy _ => simp [busy hbusy] at hidle
    | ends _ _ code _ => exact code

/-- Settles O14: the registers that an event other than Reset changes are those of the command it ends. -/
theorem resultsChangeOnlyAtCompletion : Obligations.ResultsChangeOnlyAtCompletion :=
  fun _ _ h hstep hreset => (progress_step h hstep hreset).results_change

end Sys2Proof.Machine
end

section
/-! PROOFS: Reset (70_reset_and_hazards.md R410 to R412), the state it leaves, and the wait for a port's answer, which
nothing but the answer and Reset ends (R425). -/

namespace Sys2Proof.Machine

open Sys2Proof

/-! ### The state after reset (R411) -/

/-- Settles O15: nothing runs after reset, no port is open, and no failure is recorded. -/
theorem resetMeetsInvariant : Obligations.ResetMeetsInvariant :=
  inv_of_idle rfl rfl rfl rfl (failureRecordInv_of_none rfl rfl rfl) (regsInv_reset Config.params)

/-- ID is a constant, OUT is 1 and the oversampling settings are 1; every other register reads 0 after reset. -/
theorem regWord_reset {r : Reg} (hid : r ≠ .id) (hlineCtrl : r ≠ .lineCtrl) (hcmpCfg : r ≠ .cmpCfg) :
    regWord r State.reset = 0 := by
  cases r with
  | id => exact absurd rfl hid
  | lineCtrl => exact absurd rfl hlineCtrl
  | cmpCfg => exact absurd rfl hcmpCfg
  | _ => rfl

/-- Settles O27: the registers by their words, the hidden state element by element. -/
theorem resetStateHoldsResetValues : Obligations.ResetStateHoldsResetValues := by
  have hregisters : ∀ r : Reg, r ≠ .id → r ≠ .lineCtrl → r ≠ .cmpCfg → regWord r State.reset = 0 :=
    fun _ => regWord_reset
  have himg : ∀ i : Fin 42, State.reset.cmp.img[i] = 0 := fun i => Vector.getElem_replicate i.isLt
  have hburst : ∀ i : Fin 8, State.reset.cmp.burst[i] = 0 := fun i => Vector.getElem_replicate i.isLt
  have hrx : ∀ i : Fin 9, State.reset.fs.rx[i] = 0 := fun i => Vector.getElem_replicate i.isLt
  exact ⟨rfl, regWord_reset nofun nofun nofun, regWord_reset nofun nofun nofun, rfl, rfl, rfl, hregisters, rfl, rfl, rfl,
    himg, hburst, rfl, hrx, rfl, rfl⟩

/-! ### Reset in any state (R410 to R412) -/

theorem handleEvent_reset (p : Params) (s : State) : handleEvent p .reset s = .next (resetEvent s) := rfl

/-- Settles O28: the reset state but for the synchroniser and the model's own fields; with no request outstanding, R9 enables
neither answer. -/
theorem resetAbandonsEverything : Obligations.ResetAbandonsEverything := by
  intro p s
  refine ⟨resetEvent s, handleEvent_reset p s, rfl, rfl, fun ok bytes u hu => ?_, fun ok n u hu => ?_⟩
  · obtain ⟨r, hr⟩ := (handleEvent_busDone_next_iff p ok bytes _).mp ⟨u, hu⟩
    cases hr
  · obtain ⟨r, hr⟩ := (handleEvent_serDone_next_iff p ok n _).mp ⟨u, hu⟩
    cases hr

/-! ### The wait for a port's answer (R425) -/

section Wait

variable {p : Params} {s t u : State}

/-- The units that count ticks count at their own control points only. -/
theorem fsTick_of_not_receiving (h : s.seq.phase ≠ .fsReceive) : fsTick p s = s := by
  unfold fsTick
  split
  · exact absurd ‹_› h
  · rfl

theorem cmpTick_of_not_delayed (h : s.seq.phase ≠ .cmpDelay) : cmpTick p s = s := by
  unfold cmpTick
  split
  · exact absurd ‹_› h
  · rfl

/-- The control points with an outstanding request are FS.READ's and CMP.READ's, without those that count ticks. -/
theorem Phase.waits_of_request {cfg : BitVec 15} {ph : Phase} (h : ph.request p cfg ≠ .none) :
    (ph.owner = .fs ∨ ph.owner = .cmp) ∧ ph ≠ .fsReceive ∧ ph ≠ .cmpDelay := by
  cases ph with
  | idle | owStart | ow | lwWait | fsReceive | cmpDelay => exact absurd rfl h
  | fsOpen | fsWrite => exact ⟨.inl rfl, nofun, nofun⟩
  | _ => exact ⟨.inr rfl, nofun, nofun⟩

/-- What the invariant says of a state with an outstanding request. -/
theorem Inv.waits (h : Inv p s) (hpending : s.ports.pending ≠ .none) :
    (s.seq.active = .fs ∨ s.seq.active = .cmp) ∧ s.seq.phase ≠ .fsReceive ∧ s.seq.phase ≠ .cmpDelay := by
  rw [h.phase_owner]
  exact Phase.waits_of_request (h.request ▸ hpending)

theorem Inv.busy_of_pending (h : Inv p s) (hpending : s.ports.pending ≠ .none) : s.status.busy = true := by
  obtain ⟨ha | ha, -⟩ := h.waits hpending
  all_goals rw [h.busy_active, ha]; rfl

/-- `t` stands at the control point of `s`, with the same ports and the same request outstanding. -/
structure SameWait (s t : State) : Prop where
  seq : t.seq = s.seq
  ports : t.ports = s.ports

theorem SameWait.trans (h : SameWait s u) (h' : SameWait u t) : SameWait s t :=
  ⟨h'.seq.trans h.seq, h'.ports.trans h.ports⟩

/-- While a request is outstanding, a Tick only samples the line. -/
theorem sameWait_tick (h : Inv p s) (hpending : s.ports.pending ≠ .none) (e : Bool) : SameWait s (tick p e s) := by
  obtain ⟨ha | ha, hreceive, hdelay⟩ := h.waits hpending
  · rw [tick_of_fs ha, fsTick_of_not_receiving (s := latchSample _ s) hreceive]
    exact ⟨rfl, rfl⟩
  · rw [tick_of_cmp ha, cmpTick_of_not_delayed (s := latchSample _ s) hdelay]
    exact ⟨rfl, rfl⟩

/-- While BUSY no write reaches the sequencer or the ports: a CMD write is dropped, a LINE_CTRL write ignored. -/
theorem sameWait_writeReg (hb : s.status.busy = true) {r : Reg} {v : Word} (h : writeReg r v s = .next t) :
    SameWait s t := by
  cases r with
  | cmd =>
    simp only [writeReg, writeCmd] at h
    split at h
    · rw [exec_of_busy hb] at h
      cases h
      exact ⟨rfl, rfl⟩
    · rw [rejectCommand_of_busy hb] at h
      cases h
      exact ⟨rfl, rfl⟩
  | lineCtrl =>
    rw [writeReg, writeLineCtrl_of_busy hb] at h
    cases h
    exact ⟨rfl, rfl⟩
  | _ => cases h; exact ⟨rfl, rfl⟩

/-- Every event but Reset and the two answers leaves a waiting command where it waits. -/
theorem sameWait_handleEvent {e : Event} (h : Inv p s) (hpending : s.ports.pending ≠ .none) (hreset : e ≠ .reset)
    (hbus : ∀ ok bytes, e ≠ .busDone ok bytes) (hser : ∀ ok n, e ≠ .serDone ok n)
    (he : handleEvent p e s = .next t) : SameWait s t := by
  obtain ⟨-, hreceive, -⟩ := h.waits hpending
  obtain ⟨w, off, v, -, ⟨why, -, rfl⟩ | ⟨-, -, rfl⟩ | ⟨r, -, -, hwrite⟩⟩ | ⟨w, off, answer, -, rfl⟩ | ⟨l, -, rfl⟩ |
    ⟨ok, bytes, r, hbusDone, -⟩ | ⟨ok, n, r, hserDone, -⟩ | ⟨b, -, rfl⟩ | ⟨-, rfl⟩ | ⟨hevent, -⟩ := handleEvent_cases he
  · exact ⟨rfl, rfl⟩
  · exact ⟨rfl, rfl⟩
  · have hwait := sameWait_writeReg (s := { s with reply := .done }) (h.busy_of_pending hpending) hwrite
    exact ⟨hwait.seq, hwait.ports⟩
  · exact ⟨rfl, rfl⟩
  · exact sameWait_tick h hpending l
  · exact absurd hbusDone (hbus ok bytes)
  · exact absurd hserDone (hser ok n)
  · rw [serRx_of_not_receiving hreceive]
    exact ⟨rfl, rfl⟩
  · rw [serRxErr_of_not_receiving hreceive]
    exact ⟨rfl, rfl⟩
  · exact absurd hevent hreset

/-- A run of such events keeps the wait, and the invariant, from which the next event's case follows. -/
theorem sameWait_runEvents {evs : List Event} (hwf : p.wf = true) (h : Inv p s) (hpending : s.ports.pending ≠ .none)
    (hevs : ∀ e ∈ evs, e ≠ .reset ∧ (∀ ok bytes, e ≠ .busDone ok bytes) ∧ ∀ ok n, e ≠ .serDone ok n)
    (hrun : runEvents p evs s = .next t) : Inv p t ∧ SameWait s t := by
  induction evs generalizing s with
  | nil =>
    cases hrun
    exact ⟨h, rfl, rfl⟩
  | cons e rest ih =>
    obtain ⟨u, he, hrest⟩ := runEvents_cons_next hrun
    obtain ⟨⟨hreset, hbus, hser⟩, hevs⟩ := List.forall_mem_cons.mp hevs
    have hwait : SameWait s u := sameWait_handleEvent h hpending hreset hbus hser he
    obtain ⟨hinv, hwait'⟩ := ih (inv_handleEvent hwf h he) (by rwa [hwait.ports]) hevs hrest
    exact ⟨hinv, hwait.trans hwait'⟩

end Wait

/-- Settles O17: the events leave the command in its wait, and a state that meets the invariant there is BUSY. -/
theorem unansweredRequestStaysBusy : Obligations.UnansweredRequestStaysBusy := by
  intro p evs s t hwf h hpending hevs hrun
  obtain ⟨hinv, hwait⟩ := sameWait_runEvents hwf h hpending hevs hrun
  have hbusy : t.status.busy = true := hinv.busy_of_pending (by rwa [hwait.ports])
  exact ⟨congrArg Ports.pending hwait.ports, hwait.seq, hbusy, fun v => handleEvent_WR_cmd_of_busy p v hbusy,
    resetEvent t, handleEvent_reset p t, rfl, rfl⟩

end Sys2Proof.Machine
end
